-- ==== Sys2Proof/Word.lean ====
section
/-! DEFINITION. The word and address types of the Hack CPU core (spec/00_scope.md rules R7, R9, R10). -/

namespace Sys2Proof

/-- A 16-bit word: an instruction, A, D, `inM`, `outM`, an ALU operand or an ALU result (rule R7). Bit 0 is the least
significant bit, bit 15 the sign bit (rule R9). -/
abbrev Word := BitVec 16

/-- A 15-bit word address: the program counter and `addressM` (rule R7). Both address spaces hold 2^15 words (rule R40). -/
abbrev Addr := BitVec 15

end Sys2Proof
end

