-- ==== Sys2Proof/Syntax.lean ====
section
/-! DEFINITION. The instructions of the Hack CPU core: one constructor of `Instr` per row of spec/opcode_table.json, 129 in
all (rule R68). The comp field picks the constructor; the dest and jump fields are its arguments. Bits 14..13 of a
C-instruction are ignored (rule R66) and are no part of an instruction. -/

namespace Sys2Proof

/-- The six ALU control bits, instruction bits 11..6 in this order (rules R63 and R80). -/
structure Control where
  /-- Zero the x operand. -/
  zx : Bool
  /-- Bitwise NOT of the x operand. -/
  nx : Bool
  /-- Zero the y operand. -/
  zy : Bool
  /-- Bitwise NOT of the y operand. -/
  ny : Bool
  /-- Function select: 1 adds, 0 is AND. -/
  f : Bool
  /-- Bitwise NOT of the output. -/
  no : Bool
  deriving DecidableEq, Repr

/-- The dest field, instruction bits 5..3: three independent destinations (rules R63 and R71). -/
structure Dest where
  /-- Bit 5, dA: load A with the ALU result. -/
  toA : Bool
  /-- Bit 4, dD: load D with the ALU result. -/
  toD : Bool
  /-- Bit 3, dM: write the ALU result to data memory. -/
  toM : Bool
  deriving DecidableEq, Repr

/-- The jump field, instruction bits 2..0 (rule R120). -/
inductive Jump where
  /-- 000: never (rule R121). -/
  | never
  /-- 001: result greater than zero (rule R122). -/
  | jgt
  /-- 010: result zero (rule R123). -/
  | jeq
  /-- 011: result greater than or equal to zero (rule R124). -/
  | jge
  /-- 100: result less than zero (rule R125). -/
  | jlt
  /-- 101: result not zero (rule R126). -/
  | jne
  /-- 110: result less than or equal to zero (rule R127). -/
  | jle
  /-- 111: always (rule R128). -/
  | jmp
  deriving DecidableEq, Repr

/-- An instruction. `atValue` is the A-instruction; every other constructor is the C-instruction with one value of the comp
field (a, zx nx zy ny f no). A canonical row is named after its mnemonic; a row without one is named after its bits:
`compA1C010111` has a = 1 and c = 010111. The functions in the docstrings are those of the table of rule R109. -/
inductive Instr where
  /-- `@v`: load the 15-bit literal into A (rule R170). -/
  | atValue (v : Addr)
  /-- D&A: out = D&A (rule R107). -/
  | compDAndA (d : Dest) (j : Jump)
  /-- a = 0, c = 000001: out = ~(D&A) (rule R109). -/
  | compA0C000001 (d : Dest) (j : Jump)
  /-- D+A: out = D+A (rule R104). -/
  | compDPlusA (d : Dest) (j : Jump)
  /-- a = 0, c = 000011: out = ~(D+A) (= -D-A-1) (rule R109). -/
  | compA0C000011 (d : Dest) (j : Jump)
  /-- a = 0, c = 000100: out = D&~A (rule R109). -/
  | compA0C000100 (d : Dest) (j : Jump)
  /-- a = 0, c = 000101: out = ~D|A (rule R109). -/
  | compA0C000101 (d : Dest) (j : Jump)
  /-- a = 0, c = 000110: out = D+~A (= D-A-1) (rule R109). -/
  | compA0C000110 (d : Dest) (j : Jump)
  /-- A-D: out = A-D (rule R106). -/
  | compAMinusD (d : Dest) (j : Jump)
  /-- a = 0, c = 001000: out = 0 (independent of A) (rule R109). -/
  | compA0C001000 (d : Dest) (j : Jump)
  /-- a = 0, c = 001001: out = -1 (0xFFFF) (independent of A) (rule R109). -/
  | compA0C001001 (d : Dest) (j : Jump)
  /-- a = 0, c = 001010: out = D (independent of A) (rule R109). -/
  | compA0C001010 (d : Dest) (j : Jump)
  /-- a = 0, c = 001011: out = ~D (= -D-1) (independent of A) (rule R109). -/
  | compA0C001011 (d : Dest) (j : Jump)
  /-- D: out = D (independent of A) (rule R94). -/
  | compD (d : Dest) (j : Jump)
  /-- !D: out = ~D (independent of A) (rule R96). -/
  | compNotD (d : Dest) (j : Jump)
  /-- D-1: out = D-1 (independent of A) (rule R102). -/
  | compDMinus1 (d : Dest) (j : Jump)
  /-- -D: out = -D (independent of A) (rule R98). -/
  | compNegD (d : Dest) (j : Jump)
  /-- a = 0, c = 010000: out = ~D&A (rule R109). -/
  | compA0C010000 (d : Dest) (j : Jump)
  /-- a = 0, c = 010001: out = D|~A (rule R109). -/
  | compA0C010001 (d : Dest) (j : Jump)
  /-- a = 0, c = 010010: out = ~D+A (= A-D-1) (rule R109). -/
  | compA0C010010 (d : Dest) (j : Jump)
  /-- D-A: out = D-A (rule R105). -/
  | compDMinusA (d : Dest) (j : Jump)
  /-- a = 0, c = 010100: out = ~(D|A) (rule R109). -/
  | compA0C010100 (d : Dest) (j : Jump)
  /-- D|A: out = D|A (rule R108). -/
  | compDOrA (d : Dest) (j : Jump)
  /-- a = 0, c = 010110: out = ~D+~A (= -D-A-2) (rule R109). -/
  | compA0C010110 (d : Dest) (j : Jump)
  /-- a = 0, c = 010111: out = D+A+1 (rule R109). -/
  | compA0C010111 (d : Dest) (j : Jump)
  /-- a = 0, c = 011000: out = 0 (independent of A) (rule R109). -/
  | compA0C011000 (d : Dest) (j : Jump)
  /-- a = 0, c = 011001: out = -1 (0xFFFF) (independent of A) (rule R109). -/
  | compA0C011001 (d : Dest) (j : Jump)
  /-- a = 0, c = 011010: out = ~D (= -D-1) (independent of A) (rule R109). -/
  | compA0C011010 (d : Dest) (j : Jump)
  /-- a = 0, c = 011011: out = D (independent of A) (rule R109). -/
  | compA0C011011 (d : Dest) (j : Jump)
  /-- a = 0, c = 011100: out = ~D (independent of A) (rule R109). -/
  | compA0C011100 (d : Dest) (j : Jump)
  /-- a = 0, c = 011101: out = D (independent of A) (rule R109). -/
  | compA0C011101 (d : Dest) (j : Jump)
  /-- a = 0, c = 011110: out = ~D-1 (= -D-2) (independent of A) (rule R109). -/
  | compA0C011110 (d : Dest) (j : Jump)
  /-- D+1: out = D+1 (independent of A) (rule R100). -/
  | compDPlus1 (d : Dest) (j : Jump)
  /-- a = 0, c = 100000: out = 0 (independent of A) (rule R109). -/
  | compA0C100000 (d : Dest) (j : Jump)
  /-- a = 0, c = 100001: out = -1 (0xFFFF) (independent of A) (rule R109). -/
  | compA0C100001 (d : Dest) (j : Jump)
  /-- a = 0, c = 100010: out = A (rule R109). -/
  | compA0C100010 (d : Dest) (j : Jump)
  /-- a = 0, c = 100011: out = ~A (= -A-1) (rule R109). -/
  | compA0C100011 (d : Dest) (j : Jump)
  /-- a = 0, c = 100100: out = 0 (independent of A) (rule R109). -/
  | compA0C100100 (d : Dest) (j : Jump)
  /-- a = 0, c = 100101: out = -1 (0xFFFF) (independent of A) (rule R109). -/
  | compA0C100101 (d : Dest) (j : Jump)
  /-- a = 0, c = 100110: out = ~A (= -A-1) (rule R109). -/
  | compA0C100110 (d : Dest) (j : Jump)
  /-- a = 0, c = 100111: out = A (rule R109). -/
  | compA0C100111 (d : Dest) (j : Jump)
  /-- a = 0, c = 101000: out = 0 (independent of A) (rule R109). -/
  | compA0C101000 (d : Dest) (j : Jump)
  /-- a = 0, c = 101001: out = -1 (0xFFFF) (independent of A) (rule R109). -/
  | compA0C101001 (d : Dest) (j : Jump)
  /-- 0: out = 0 (independent of A) (rule R91). -/
  | comp0 (d : Dest) (j : Jump)
  /-- a = 0, c = 101011: out = -1 (0xFFFF) (independent of A) (rule R109). -/
  | compA0C101011 (d : Dest) (j : Jump)
  /-- a = 0, c = 101100: out = 0 (independent of A) (rule R109). -/
  | compA0C101100 (d : Dest) (j : Jump)
  /-- a = 0, c = 101101: out = -1 (0xFFFF) (independent of A) (rule R109). -/
  | compA0C101101 (d : Dest) (j : Jump)
  /-- a = 0, c = 101110: out = -1 (0xFFFF) (independent of A) (rule R109). -/
  | compA0C101110 (d : Dest) (j : Jump)
  /-- a = 0, c = 101111: out = 0 (independent of A) (rule R109). -/
  | compA0C101111 (d : Dest) (j : Jump)
  /-- A: out = A (rule R95). -/
  | compA (d : Dest) (j : Jump)
  /-- !A: out = ~A (rule R97). -/
  | compNotA (d : Dest) (j : Jump)
  /-- A-1: out = A-1 (rule R103). -/
  | compAMinus1 (d : Dest) (j : Jump)
  /-- -A: out = -A (rule R99). -/
  | compNegA (d : Dest) (j : Jump)
  /-- a = 0, c = 110100: out = ~A (rule R109). -/
  | compA0C110100 (d : Dest) (j : Jump)
  /-- a = 0, c = 110101: out = A (rule R109). -/
  | compA0C110101 (d : Dest) (j : Jump)
  /-- a = 0, c = 110110: out = ~A-1 (= -A-2) (rule R109). -/
  | compA0C110110 (d : Dest) (j : Jump)
  /-- A+1: out = A+1 (rule R101). -/
  | compAPlus1 (d : Dest) (j : Jump)
  /-- a = 0, c = 111000: out = 0 (independent of A) (rule R109). -/
  | compA0C111000 (d : Dest) (j : Jump)
  /-- a = 0, c = 111001: out = -1 (0xFFFF) (independent of A) (rule R109). -/
  | compA0C111001 (d : Dest) (j : Jump)
  /-- -1: out = -1 (0xFFFF) (independent of A) (rule R93). -/
  | compNeg1 (d : Dest) (j : Jump)
  /-- a = 0, c = 111011: out = 0 (independent of A) (rule R109). -/
  | compA0C111011 (d : Dest) (j : Jump)
  /-- a = 0, c = 111100: out = -1 (0xFFFF) (independent of A) (rule R109). -/
  | compA0C111100 (d : Dest) (j : Jump)
  /-- a = 0, c = 111101: out = 0 (independent of A) (rule R109). -/
  | compA0C111101 (d : Dest) (j : Jump)
  /-- a = 0, c = 111110: out = -2 (0xFFFE) (independent of A) (rule R109). -/
  | compA0C111110 (d : Dest) (j : Jump)
  /-- 1: out = 1 (independent of A) (rule R92). -/
  | comp1 (d : Dest) (j : Jump)
  /-- D&M: out = D&M (rule R107). -/
  | compDAndM (d : Dest) (j : Jump)
  /-- a = 1, c = 000001: out = ~(D&M) (rule R109). -/
  | compA1C000001 (d : Dest) (j : Jump)
  /-- D+M: out = D+M (rule R104). -/
  | compDPlusM (d : Dest) (j : Jump)
  /-- a = 1, c = 000011: out = ~(D+M) (= -D-M-1) (rule R109). -/
  | compA1C000011 (d : Dest) (j : Jump)
  /-- a = 1, c = 000100: out = D&~M (rule R109). -/
  | compA1C000100 (d : Dest) (j : Jump)
  /-- a = 1, c = 000101: out = ~D|M (rule R109). -/
  | compA1C000101 (d : Dest) (j : Jump)
  /-- a = 1, c = 000110: out = D+~M (= D-M-1) (rule R109). -/
  | compA1C000110 (d : Dest) (j : Jump)
  /-- M-D: out = M-D (rule R106). -/
  | compMMinusD (d : Dest) (j : Jump)
  /-- a = 1, c = 001000: out = 0 (independent of M) (rule R109). -/
  | compA1C001000 (d : Dest) (j : Jump)
  /-- a = 1, c = 001001: out = -1 (0xFFFF) (independent of M) (rule R109). -/
  | compA1C001001 (d : Dest) (j : Jump)
  /-- a = 1, c = 001010: out = D (independent of M) (rule R109). -/
  | compA1C001010 (d : Dest) (j : Jump)
  /-- a = 1, c = 001011: out = ~D (= -D-1) (independent of M) (rule R109). -/
  | compA1C001011 (d : Dest) (j : Jump)
  /-- a = 1, c = 001100: out = D (independent of M) (rule R94). -/
  | compA1C001100 (d : Dest) (j : Jump)
  /-- a = 1, c = 001101: out = ~D (independent of M) (rule R96). -/
  | compA1C001101 (d : Dest) (j : Jump)
  /-- a = 1, c = 001110: out = D-1 (independent of M) (rule R102). -/
  | compA1C001110 (d : Dest) (j : Jump)
  /-- a = 1, c = 001111: out = -D (independent of M) (rule R98). -/
  | compA1C001111 (d : Dest) (j : Jump)
  /-- a = 1, c = 010000: out = ~D&M (rule R109). -/
  | compA1C010000 (d : Dest) (j : Jump)
  /-- a = 1, c = 010001: out = D|~M (rule R109). -/
  | compA1C010001 (d : Dest) (j : Jump)
  /-- a = 1, c = 010010: out = ~D+M (= M-D-1) (rule R109). -/
  | compA1C010010 (d : Dest) (j : Jump)
  /-- D-M: out = D-M (rule R105). -/
  | compDMinusM (d : Dest) (j : Jump)
  /-- a = 1, c = 010100: out = ~(D|M) (rule R109). -/
  | compA1C010100 (d : Dest) (j : Jump)
  /-- D|M: out = D|M (rule R108). -/
  | compDOrM (d : Dest) (j : Jump)
  /-- a = 1, c = 010110: out = ~D+~M (= -D-M-2) (rule R109). -/
  | compA1C010110 (d : Dest) (j : Jump)
  /-- a = 1, c = 010111: out = D+M+1 (rule R109). -/
  | compA1C010111 (d : Dest) (j : Jump)
  /-- a = 1, c = 011000: out = 0 (independent of M) (rule R109). -/
  | compA1C011000 (d : Dest) (j : Jump)
  /-- a = 1, c = 011001: out = -1 (0xFFFF) (independent of M) (rule R109). -/
  | compA1C011001 (d : Dest) (j : Jump)
  /-- a = 1, c = 011010: out = ~D (= -D-1) (independent of M) (rule R109). -/
  | compA1C011010 (d : Dest) (j : Jump)
  /-- a = 1, c = 011011: out = D (independent of M) (rule R109). -/
  | compA1C011011 (d : Dest) (j : Jump)
  /-- a = 1, c = 011100: out = ~D (independent of M) (rule R109). -/
  | compA1C011100 (d : Dest) (j : Jump)
  /-- a = 1, c = 011101: out = D (independent of M) (rule R109). -/
  | compA1C011101 (d : Dest) (j : Jump)
  /-- a = 1, c = 011110: out = ~D-1 (= -D-2) (independent of M) (rule R109). -/
  | compA1C011110 (d : Dest) (j : Jump)
  /-- a = 1, c = 011111: out = D+1 (independent of M) (rule R100). -/
  | compA1C011111 (d : Dest) (j : Jump)
  /-- a = 1, c = 100000: out = 0 (independent of M) (rule R109). -/
  | compA1C100000 (d : Dest) (j : Jump)
  /-- a = 1, c = 100001: out = -1 (0xFFFF) (independent of M) (rule R109). -/
  | compA1C100001 (d : Dest) (j : Jump)
  /-- a = 1, c = 100010: out = M (rule R109). -/
  | compA1C100010 (d : Dest) (j : Jump)
  /-- a = 1, c = 100011: out = ~M (= -M-1) (rule R109). -/
  | compA1C100011 (d : Dest) (j : Jump)
  /-- a = 1, c = 100100: out = 0 (independent of M) (rule R109). -/
  | compA1C100100 (d : Dest) (j : Jump)
  /-- a = 1, c = 100101: out = -1 (0xFFFF) (independent of M) (rule R109). -/
  | compA1C100101 (d : Dest) (j : Jump)
  /-- a = 1, c = 100110: out = ~M (= -M-1) (rule R109). -/
  | compA1C100110 (d : Dest) (j : Jump)
  /-- a = 1, c = 100111: out = M (rule R109). -/
  | compA1C100111 (d : Dest) (j : Jump)
  /-- a = 1, c = 101000: out = 0 (independent of M) (rule R109). -/
  | compA1C101000 (d : Dest) (j : Jump)
  /-- a = 1, c = 101001: out = -1 (0xFFFF) (independent of M) (rule R109). -/
  | compA1C101001 (d : Dest) (j : Jump)
  /-- a = 1, c = 101010: out = 0 (independent of M) (rule R91). -/
  | compA1C101010 (d : Dest) (j : Jump)
  /-- a = 1, c = 101011: out = -1 (0xFFFF) (independent of M) (rule R109). -/
  | compA1C101011 (d : Dest) (j : Jump)
  /-- a = 1, c = 101100: out = 0 (independent of M) (rule R109). -/
  | compA1C101100 (d : Dest) (j : Jump)
  /-- a = 1, c = 101101: out = -1 (0xFFFF) (independent of M) (rule R109). -/
  | compA1C101101 (d : Dest) (j : Jump)
  /-- a = 1, c = 101110: out = -1 (0xFFFF) (independent of M) (rule R109). -/
  | compA1C101110 (d : Dest) (j : Jump)
  /-- a = 1, c = 101111: out = 0 (independent of M) (rule R109). -/
  | compA1C101111 (d : Dest) (j : Jump)
  /-- M: out = M (rule R95). -/
  | compM (d : Dest) (j : Jump)
  /-- !M: out = ~M (rule R97). -/
  | compNotM (d : Dest) (j : Jump)
  /-- M-1: out = M-1 (rule R103). -/
  | compMMinus1 (d : Dest) (j : Jump)
  /-- -M: out = -M (rule R99). -/
  | compNegM (d : Dest) (j : Jump)
  /-- a = 1, c = 110100: out = ~M (rule R109). -/
  | compA1C110100 (d : Dest) (j : Jump)
  /-- a = 1, c = 110101: out = M (rule R109). -/
  | compA1C110101 (d : Dest) (j : Jump)
  /-- a = 1, c = 110110: out = ~M-1 (= -M-2) (rule R109). -/
  | compA1C110110 (d : Dest) (j : Jump)
  /-- M+1: out = M+1 (rule R101). -/
  | compMPlus1 (d : Dest) (j : Jump)
  /-- a = 1, c = 111000: out = 0 (independent of M) (rule R109). -/
  | compA1C111000 (d : Dest) (j : Jump)
  /-- a = 1, c = 111001: out = -1 (0xFFFF) (independent of M) (rule R109). -/
  | compA1C111001 (d : Dest) (j : Jump)
  /-- a = 1, c = 111010: out = -1 (0xFFFF) (independent of M) (rule R93). -/
  | compA1C111010 (d : Dest) (j : Jump)
  /-- a = 1, c = 111011: out = 0 (independent of M) (rule R109). -/
  | compA1C111011 (d : Dest) (j : Jump)
  /-- a = 1, c = 111100: out = -1 (0xFFFF) (independent of M) (rule R109). -/
  | compA1C111100 (d : Dest) (j : Jump)
  /-- a = 1, c = 111101: out = 0 (independent of M) (rule R109). -/
  | compA1C111101 (d : Dest) (j : Jump)
  /-- a = 1, c = 111110: out = -2 (0xFFFE) (independent of M) (rule R109). -/
  | compA1C111110 (d : Dest) (j : Jump)
  /-- a = 1, c = 111111: out = 1 (independent of M) (rule R92). -/
  | compA1C111111 (d : Dest) (j : Jump)
  deriving DecidableEq, Repr

end Sys2Proof
end

