-- ==== Sys2Proof/WellFormed.lean ====
section
/-! DEFINITION. The checks on numbers before they become values of the model (spec/46_cpu_step.md rule R206, decision D9: an
out-of-range number is refused, never truncated). A term of `Instr` needs no check of its own: its fields are typed by their
widths and every 16-bit pattern is a legal instruction (spec/30_encoding.md rule R67), so every `Instr` is well-formed. -/

namespace Sys2Proof

/-- A number that fits a 16-bit port, register or memory word. -/
def fitsWord (n : Nat) : Bool := decide (n < 2 ^ 16)

/-- A number that fits a 15-bit address, and so a literal of `@v` (rules R7 and R65). -/
def fitsAddr (n : Nat) : Bool := decide (n < 2 ^ 15)

/-- A number that fits the 1-bit `reset` port (rule R29). -/
def fitsBit (n : Nat) : Bool := decide (n < 2)

/-- Port values as numbers, before a transcriber has checked them (decision D9). -/
structure RawInputs where
  instruction : Nat
  inM : Nat
  reset : Nat
  deriving DecidableEq, Repr

/-- Every port value fits its port (rule R206). -/
def RawInputs.fits (r : RawInputs) : Bool := fitsWord r.instruction && fitsWord r.inM && fitsBit r.reset

/-- A program image as numbers: every word fits 16 bits and every index fits a 15-bit address (decisions D8 and D9). -/
def imageFits (ws : List Nat) : Bool := ws.all fitsWord && decide (ws.length ≤ 2 ^ 15)

end Sys2Proof
end

