-- ==== Sys2Proof/Decode.lean ====
section
/-! DEFINITION. The InstructionDecoder of spec/30_encoding.md: the control signals of rule R64, the decoder from words to
`Instr`, and the encoder written from the same formats (rules R62 and R63). Decoding is total and rejects nothing, because
"every 16-bit pattern is a legal instruction" (rule R67). -/

namespace Sys2Proof

/-- Bit i of a word, bit 0 the least significant (rule R9). -/
def bit (w : Word) (i : Nat) : Bool := w.getLsbD i

/-- The literal of an A-instruction, bits 14..0 (rule R62). -/
def literalField (w : Word) : Addr := w.setWidth 15

/-- The control bits, instruction bits 11..6 in the order zx nx zy ny f no (rules R63 and R64; conflict C8). -/
def controlField (w : Word) : Control :=
  { zx := bit w 11, nx := bit w 10, zy := bit w 9, ny := bit w 8, f := bit w 7, no := bit w 6 }

/-- The control bits written as a 6-bit number, zx first, as the tables of spec/40_alu.md write c. -/
def controlOf (c : BitVec 6) : Control :=
  { zx := c.getLsbD 5, nx := c.getLsbD 4, zy := c.getLsbD 3, ny := c.getLsbD 2, f := c.getLsbD 1, no := c.getLsbD 0 }

/-- The control bits as the 6-bit number c, zx first. -/
def Control.code (c : Control) : BitVec 6 :=
  BitVec.ofBool c.zx ++ BitVec.ofBool c.nx ++ BitVec.ofBool c.zy ++ BitVec.ofBool c.ny ++ BitVec.ofBool c.f
    ++ BitVec.ofBool c.no

/-- The dest field, bits 5..3: dA, dD, dM (rule R63). -/
def destField (w : Word) : Dest := { toA := bit w 5, toD := bit w 4, toM := bit w 3 }

/-- The jump a 3-bit code j2 j1 j0 selects (rule R120). -/
def jumpOfBits : Bool → Bool → Bool → Jump
  | false, false, false => .never
  | false, false, true => .jgt
  | false, true, false => .jeq
  | false, true, true => .jge
  | true, false, false => .jlt
  | true, false, true => .jne
  | true, true, false => .jle
  | true, true, true => .jmp

/-- The jump field, bits 2..0 (rule R63). -/
def jumpField (w : Word) : Jump := jumpOfBits (bit w 2) (bit w 1) (bit w 0)

/-- The decoder outputs of rule R64. -/
structure Signals where
  isCompute : Bool
  /-- `aluUseMemoryOperand`, bit 12. -/
  a : Bool
  control : Control
  loadA : Bool
  loadD : Bool
  /-- The write request, equal to `writeM`. -/
  loadM : Bool
  jumpCode : Jump
  deriving DecidableEq, Repr

/-- The InstructionDecoder as rule R64 writes it: a pure function of the instruction word. Its outputs `a`, `control` and
`jumpCode` are not gated by `isCompute` (rule R87). -/
def signals (w : Word) : Signals :=
  { isCompute := bit w 15
    a := bit w 12
    control := controlField w
    loadA := !bit w 15 || bit w 5
    loadD := bit w 15 && bit w 4
    loadM := bit w 15 && bit w 3
    jumpCode := jumpField w }

/-- The comp rows with a = 0, by their six control bits (tables of rules R90 and R109). -/
def compOfA (c : Control) : Dest → Jump → Instr :=
  match c.zx, c.nx, c.zy, c.ny, c.f, c.no with
  | false, false, false, false, false, false => .compDAndA
  | false, false, false, false, false, true => .compA0C000001
  | false, false, false, false, true, false => .compDPlusA
  | false, false, false, false, true, true => .compA0C000011
  | false, false, false, true, false, false => .compA0C000100
  | false, false, false, true, false, true => .compA0C000101
  | false, false, false, true, true, false => .compA0C000110
  | false, false, false, true, true, true => .compAMinusD
  | false, false, true, false, false, false => .compA0C001000
  | false, false, true, false, false, true => .compA0C001001
  | false, false, true, false, true, false => .compA0C001010
  | false, false, true, false, true, true => .compA0C001011
  | false, false, true, true, false, false => .compD
  | false, false, true, true, false, true => .compNotD
  | false, false, true, true, true, false => .compDMinus1
  | false, false, true, true, true, true => .compNegD
  | false, true, false, false, false, false => .compA0C010000
  | false, true, false, false, false, true => .compA0C010001
  | false, true, false, false, true, false => .compA0C010010
  | false, true, false, false, true, true => .compDMinusA
  | false, true, false, true, false, false => .compA0C010100
  | false, true, false, true, false, true => .compDOrA
  | false, true, false, true, true, false => .compA0C010110
  | false, true, false, true, true, true => .compA0C010111
  | false, true, true, false, false, false => .compA0C011000
  | false, true, true, false, false, true => .compA0C011001
  | false, true, true, false, true, false => .compA0C011010
  | false, true, true, false, true, true => .compA0C011011
  | false, true, true, true, false, false => .compA0C011100
  | false, true, true, true, false, true => .compA0C011101
  | false, true, true, true, true, false => .compA0C011110
  | false, true, true, true, true, true => .compDPlus1
  | true, false, false, false, false, false => .compA0C100000
  | true, false, false, false, false, true => .compA0C100001
  | true, false, false, false, true, false => .compA0C100010
  | true, false, false, false, true, true => .compA0C100011
  | true, false, false, true, false, false => .compA0C100100
  | true, false, false, true, false, true => .compA0C100101
  | true, false, false, true, true, false => .compA0C100110
  | true, false, false, true, true, true => .compA0C100111
  | true, false, true, false, false, false => .compA0C101000
  | true, false, true, false, false, true => .compA0C101001
  | true, false, true, false, true, false => .comp0
  | true, false, true, false, true, true => .compA0C101011
  | true, false, true, true, false, false => .compA0C101100
  | true, false, true, true, false, true => .compA0C101101
  | true, false, true, true, true, false => .compA0C101110
  | true, false, true, true, true, true => .compA0C101111
  | true, true, false, false, false, false => .compA
  | true, true, false, false, false, true => .compNotA
  | true, true, false, false, true, false => .compAMinus1
  | true, true, false, false, true, true => .compNegA
  | true, true, false, true, false, false => .compA0C110100
  | true, true, false, true, false, true => .compA0C110101
  | true, true, false, true, true, false => .compA0C110110
  | true, true, false, true, true, true => .compAPlus1
  | true, true, true, false, false, false => .compA0C111000
  | true, true, true, false, false, true => .compA0C111001
  | true, true, true, false, true, false => .compNeg1
  | true, true, true, false, true, true => .compA0C111011
  | true, true, true, true, false, false => .compA0C111100
  | true, true, true, true, false, true => .compA0C111101
  | true, true, true, true, true, false => .compA0C111110
  | true, true, true, true, true, true => .comp1

/-- The comp rows with a = 1, by their six control bits (tables of rules R90 and R109). -/
def compOfM (c : Control) : Dest → Jump → Instr :=
  match c.zx, c.nx, c.zy, c.ny, c.f, c.no with
  | false, false, false, false, false, false => .compDAndM
  | false, false, false, false, false, true => .compA1C000001
  | false, false, false, false, true, false => .compDPlusM
  | false, false, false, false, true, true => .compA1C000011
  | false, false, false, true, false, false => .compA1C000100
  | false, false, false, true, false, true => .compA1C000101
  | false, false, false, true, true, false => .compA1C000110
  | false, false, false, true, true, true => .compMMinusD
  | false, false, true, false, false, false => .compA1C001000
  | false, false, true, false, false, true => .compA1C001001
  | false, false, true, false, true, false => .compA1C001010
  | false, false, true, false, true, true => .compA1C001011
  | false, false, true, true, false, false => .compA1C001100
  | false, false, true, true, false, true => .compA1C001101
  | false, false, true, true, true, false => .compA1C001110
  | false, false, true, true, true, true => .compA1C001111
  | false, true, false, false, false, false => .compA1C010000
  | false, true, false, false, false, true => .compA1C010001
  | false, true, false, false, true, false => .compA1C010010
  | false, true, false, false, true, true => .compDMinusM
  | false, true, false, true, false, false => .compA1C010100
  | false, true, false, true, false, true => .compDOrM
  | false, true, false, true, true, false => .compA1C010110
  | false, true, false, true, true, true => .compA1C010111
  | false, true, true, false, false, false => .compA1C011000
  | false, true, true, false, false, true => .compA1C011001
  | false, true, true, false, true, false => .compA1C011010
  | false, true, true, false, true, true => .compA1C011011
  | false, true, true, true, false, false => .compA1C011100
  | false, true, true, true, false, true => .compA1C011101
  | false, true, true, true, true, false => .compA1C011110
  | false, true, true, true, true, true => .compA1C011111
  | true, false, false, false, false, false => .compA1C100000
  | true, false, false, false, false, true => .compA1C100001
  | true, false, false, false, true, false => .compA1C100010
  | true, false, false, false, true, true => .compA1C100011
  | true, false, false, true, false, false => .compA1C100100
  | true, false, false, true, false, true => .compA1C100101
  | true, false, false, true, true, false => .compA1C100110
  | true, false, false, true, true, true => .compA1C100111
  | true, false, true, false, false, false => .compA1C101000
  | true, false, true, false, false, true => .compA1C101001
  | true, false, true, false, true, false => .compA1C101010
  | true, false, true, false, true, true => .compA1C101011
  | true, false, true, true, false, false => .compA1C101100
  | true, false, true, true, false, true => .compA1C101101
  | true, false, true, true, true, false => .compA1C101110
  | true, false, true, true, true, true => .compA1C101111
  | true, true, false, false, false, false => .compM
  | true, true, false, false, false, true => .compNotM
  | true, true, false, false, true, false => .compMMinus1
  | true, true, false, false, true, true => .compNegM
  | true, true, false, true, false, false => .compA1C110100
  | true, true, false, true, false, true => .compA1C110101
  | true, true, false, true, true, false => .compA1C110110
  | true, true, false, true, true, true => .compMPlus1
  | true, true, true, false, false, false => .compA1C111000
  | true, true, true, false, false, true => .compA1C111001
  | true, true, true, false, true, false => .compA1C111010
  | true, true, true, false, true, true => .compA1C111011
  | true, true, true, true, false, false => .compA1C111100
  | true, true, true, true, false, true => .compA1C111101
  | true, true, true, true, true, false => .compA1C111110
  | true, true, true, true, true, true => .compA1C111111

/-- The instruction a word stands for. Bit 15 picks the class (rule R61); for a C-instruction bits 12..6 pick the row and
bits 14..13 are read by nothing (rule R66). -/
def decode (w : Word) : Instr :=
  match bit w 15 with
  | false => .atValue (literalField w)
  | true =>
    match bit w 12 with
    | false => compOfA (controlField w) (destField w) (jumpField w)
    | true => compOfM (controlField w) (destField w) (jumpField w)

/-- A 16-bit word from a number; a number that does not fit is refused (rule R206, decision D9). -/
def wordOfNat? (n : Nat) : Option Word :=
  if fitsWord n then some (BitVec.ofNat 16 n) else none

/-- The words of a program image given as numbers; an image that does not fit is refused (decisions D8 and D9). -/
def imageOfNats? (ws : List Nat) : Option (List Word) :=
  if imageFits ws then some (ws.map (BitVec.ofNat 16)) else none

/-- The instruction the decoder reads from a word numbered as spec/opcode_table.json numbers its bits: bit 0 is the least
significant bit of the one 16-bit word an instruction has (rule R60). A number wider than nbits, or nbits wider than the
word, is refused. -/
def decodeTableWord (nbits w : Nat) : Option Instr :=
  if nbits ≤ 16 ∧ w < 2 ^ nbits then (wordOfNat? w).map decode else none

/-- The 3-bit code of a dest field: dA dD dM (rule R63). -/
def Dest.code (d : Dest) : BitVec 3 := BitVec.ofBool d.toA ++ BitVec.ofBool d.toD ++ BitVec.ofBool d.toM

/-- The 3-bit code of a jump field (rule R120). -/
def Jump.code : Jump → BitVec 3
  | .never => 0b000#3
  | .jgt => 0b001#3
  | .jeq => 0b010#3
  | .jge => 0b011#3
  | .jlt => 0b100#3
  | .jne => 0b101#3
  | .jle => 0b110#3
  | .jmp => 0b111#3

/-- The word of a C-instruction, `111accccccdddjjj`: the format of rule R63 with bits 14..13 written as 1,1 (rule R66,
decision D14). -/
def computeWord (a : Bool) (c : BitVec 6) (d : Dest) (j : Jump) : Word :=
  0b111#3 ++ BitVec.ofBool a ++ c ++ d.code ++ j.code

/-- The word of an instruction, from the formats of rules R62 and R63 and the comp field of its row. -/
def encode : Instr → Word
  | .atValue v => 0b0#1 ++ v
  | .compDAndA d j => computeWord false 0b000000#6 d j
  | .compA0C000001 d j => computeWord false 0b000001#6 d j
  | .compDPlusA d j => computeWord false 0b000010#6 d j
  | .compA0C000011 d j => computeWord false 0b000011#6 d j
  | .compA0C000100 d j => computeWord false 0b000100#6 d j
  | .compA0C000101 d j => computeWord false 0b000101#6 d j
  | .compA0C000110 d j => computeWord false 0b000110#6 d j
  | .compAMinusD d j => computeWord false 0b000111#6 d j
  | .compA0C001000 d j => computeWord false 0b001000#6 d j
  | .compA0C001001 d j => computeWord false 0b001001#6 d j
  | .compA0C001010 d j => computeWord false 0b001010#6 d j
  | .compA0C001011 d j => computeWord false 0b001011#6 d j
  | .compD d j => computeWord false 0b001100#6 d j
  | .compNotD d j => computeWord false 0b001101#6 d j
  | .compDMinus1 d j => computeWord false 0b001110#6 d j
  | .compNegD d j => computeWord false 0b001111#6 d j
  | .compA0C010000 d j => computeWord false 0b010000#6 d j
  | .compA0C010001 d j => computeWord false 0b010001#6 d j
  | .compA0C010010 d j => computeWord false 0b010010#6 d j
  | .compDMinusA d j => computeWord false 0b010011#6 d j
  | .compA0C010100 d j => computeWord false 0b010100#6 d j
  | .compDOrA d j => computeWord false 0b010101#6 d j
  | .compA0C010110 d j => computeWord false 0b010110#6 d j
  | .compA0C010111 d j => computeWord false 0b010111#6 d j
  | .compA0C011000 d j => computeWord false 0b011000#6 d j
  | .compA0C011001 d j => computeWord false 0b011001#6 d j
  | .compA0C011010 d j => computeWord false 0b011010#6 d j
  | .compA0C011011 d j => computeWord false 0b011011#6 d j
  | .compA0C011100 d j => computeWord false 0b011100#6 d j
  | .compA0C011101 d j => computeWord false 0b011101#6 d j
  | .compA0C011110 d j => computeWord false 0b011110#6 d j
  | .compDPlus1 d j => computeWord false 0b011111#6 d j
  | .compA0C100000 d j => computeWord false 0b100000#6 d j
  | .compA0C100001 d j => computeWord false 0b100001#6 d j
  | .compA0C100010 d j => computeWord false 0b100010#6 d j
  | .compA0C100011 d j => computeWord false 0b100011#6 d j
  | .compA0C100100 d j => computeWord false 0b100100#6 d j
  | .compA0C100101 d j => computeWord false 0b100101#6 d j
  | .compA0C100110 d j => computeWord false 0b100110#6 d j
  | .compA0C100111 d j => computeWord false 0b100111#6 d j
  | .compA0C101000 d j => computeWord false 0b101000#6 d j
  | .compA0C101001 d j => computeWord false 0b101001#6 d j
  | .comp0 d j => computeWord false 0b101010#6 d j
  | .compA0C101011 d j => computeWord false 0b101011#6 d j
  | .compA0C101100 d j => computeWord false 0b101100#6 d j
  | .compA0C101101 d j => computeWord false 0b101101#6 d j
  | .compA0C101110 d j => computeWord false 0b101110#6 d j
  | .compA0C101111 d j => computeWord false 0b101111#6 d j
  | .compA d j => computeWord false 0b110000#6 d j
  | .compNotA d j => computeWord false 0b110001#6 d j
  | .compAMinus1 d j => computeWord false 0b110010#6 d j
  | .compNegA d j => computeWord false 0b110011#6 d j
  | .compA0C110100 d j => computeWord false 0b110100#6 d j
  | .compA0C110101 d j => computeWord false 0b110101#6 d j
  | .compA0C110110 d j => computeWord false 0b110110#6 d j
  | .compAPlus1 d j => computeWord false 0b110111#6 d j
  | .compA0C111000 d j => computeWord false 0b111000#6 d j
  | .compA0C111001 d j => computeWord false 0b111001#6 d j
  | .compNeg1 d j => computeWord false 0b111010#6 d j
  | .compA0C111011 d j => computeWord false 0b111011#6 d j
  | .compA0C111100 d j => computeWord false 0b111100#6 d j
  | .compA0C111101 d j => computeWord false 0b111101#6 d j
  | .compA0C111110 d j => computeWord false 0b111110#6 d j
  | .comp1 d j => computeWord false 0b111111#6 d j
  | .compDAndM d j => computeWord true 0b000000#6 d j
  | .compA1C000001 d j => computeWord true 0b000001#6 d j
  | .compDPlusM d j => computeWord true 0b000010#6 d j
  | .compA1C000011 d j => computeWord true 0b000011#6 d j
  | .compA1C000100 d j => computeWord true 0b000100#6 d j
  | .compA1C000101 d j => computeWord true 0b000101#6 d j
  | .compA1C000110 d j => computeWord true 0b000110#6 d j
  | .compMMinusD d j => computeWord true 0b000111#6 d j
  | .compA1C001000 d j => computeWord true 0b001000#6 d j
  | .compA1C001001 d j => computeWord true 0b001001#6 d j
  | .compA1C001010 d j => computeWord true 0b001010#6 d j
  | .compA1C001011 d j => computeWord true 0b001011#6 d j
  | .compA1C001100 d j => computeWord true 0b001100#6 d j
  | .compA1C001101 d j => computeWord true 0b001101#6 d j
  | .compA1C001110 d j => computeWord true 0b001110#6 d j
  | .compA1C001111 d j => computeWord true 0b001111#6 d j
  | .compA1C010000 d j => computeWord true 0b010000#6 d j
  | .compA1C010001 d j => computeWord true 0b010001#6 d j
  | .compA1C010010 d j => computeWord true 0b010010#6 d j
  | .compDMinusM d j => computeWord true 0b010011#6 d j
  | .compA1C010100 d j => computeWord true 0b010100#6 d j
  | .compDOrM d j => computeWord true 0b010101#6 d j
  | .compA1C010110 d j => computeWord true 0b010110#6 d j
  | .compA1C010111 d j => computeWord true 0b010111#6 d j
  | .compA1C011000 d j => computeWord true 0b011000#6 d j
  | .compA1C011001 d j => computeWord true 0b011001#6 d j
  | .compA1C011010 d j => computeWord true 0b011010#6 d j
  | .compA1C011011 d j => computeWord true 0b011011#6 d j
  | .compA1C011100 d j => computeWord true 0b011100#6 d j
  | .compA1C011101 d j => computeWord true 0b011101#6 d j
  | .compA1C011110 d j => computeWord true 0b011110#6 d j
  | .compA1C011111 d j => computeWord true 0b011111#6 d j
  | .compA1C100000 d j => computeWord true 0b100000#6 d j
  | .compA1C100001 d j => computeWord true 0b100001#6 d j
  | .compA1C100010 d j => computeWord true 0b100010#6 d j
  | .compA1C100011 d j => computeWord true 0b100011#6 d j
  | .compA1C100100 d j => computeWord true 0b100100#6 d j
  | .compA1C100101 d j => computeWord true 0b100101#6 d j
  | .compA1C100110 d j => computeWord true 0b100110#6 d j
  | .compA1C100111 d j => computeWord true 0b100111#6 d j
  | .compA1C101000 d j => computeWord true 0b101000#6 d j
  | .compA1C101001 d j => computeWord true 0b101001#6 d j
  | .compA1C101010 d j => computeWord true 0b101010#6 d j
  | .compA1C101011 d j => computeWord true 0b101011#6 d j
  | .compA1C101100 d j => computeWord true 0b101100#6 d j
  | .compA1C101101 d j => computeWord true 0b101101#6 d j
  | .compA1C101110 d j => computeWord true 0b101110#6 d j
  | .compA1C101111 d j => computeWord true 0b101111#6 d j
  | .compM d j => computeWord true 0b110000#6 d j
  | .compNotM d j => computeWord true 0b110001#6 d j
  | .compMMinus1 d j => computeWord true 0b110010#6 d j
  | .compNegM d j => computeWord true 0b110011#6 d j
  | .compA1C110100 d j => computeWord true 0b110100#6 d j
  | .compA1C110101 d j => computeWord true 0b110101#6 d j
  | .compA1C110110 d j => computeWord true 0b110110#6 d j
  | .compMPlus1 d j => computeWord true 0b110111#6 d j
  | .compA1C111000 d j => computeWord true 0b111000#6 d j
  | .compA1C111001 d j => computeWord true 0b111001#6 d j
  | .compA1C111010 d j => computeWord true 0b111010#6 d j
  | .compA1C111011 d j => computeWord true 0b111011#6 d j
  | .compA1C111100 d j => computeWord true 0b111100#6 d j
  | .compA1C111101 d j => computeWord true 0b111101#6 d j
  | .compA1C111110 d j => computeWord true 0b111110#6 d j
  | .compA1C111111 d j => computeWord true 0b111111#6 d j

end Sys2Proof
end

