-- ==== Sys2Proof/Config.lean ====
section
/-! DEFINITION. What an implementation fixes and the free values of the spec (spec/00_scope.md rule R8). The constants
below have no body: no proof can learn what they are, so a claim is true whatever they are. -/

namespace Sys2Proof

/-- The two behaviours rule R161 allows for an increment of PC from 0x7FFF. -/
inductive PcOverflow where
  /-- PC' = 0x0000, the increment modulo 2^15. -/
  | wrap
  /-- The model stops with `ModelFault(PcOverflow)` and has no next state. -/
  | fault
  deriving DecidableEq, Repr, Inhabited

/-- The open parameter `pcOverflow` of rules R8 and R161 ("wraparound on overflow is implementation-defined"): a constant of
the implementation. Assumption log entry 5. -/
opaque Config.pcOverflow : PcOverflow

/-- The free value `outMDraw` of rules R8 and R201: what `outM` carries in a cycle with `writeM = 0`. Its argument is the
number of the cycle, so each cycle draws afresh. Assumption log entry 6. -/
opaque Config.outMDraw : Nat → Word

/-- What `inM` carries in a cycle whose `addressM` is an address of the open parameter `devices` (rule R8, decision D7: "a set
of data addresses whose read and write behaviour the platform defines"): a free value for each cycle and address.
DESIGN CHOICE, assumption log entry 10. -/
opaque Config.deviceWord : Nat → Addr → Word

end Sys2Proof
end

