-- ==== Sys2Proof/Machine/State.lean ====
section
/-! DEFINITION. The state of the machine as plain data: the register state of the core (spec/10_state.md rule R20), the two
memories of the spec's harness (spec/20_memory.md rule R48), the platform's device addresses (rule R8), the reset inputs still
to come (decision D13), and two fields of the model's own (the cycle number and the ports of the last cycle). -/

namespace Sys2Proof.Machine

/-- `RegisterState`, "exactly" the architectural state of the core (rule R20). -/
structure RegisterState where
  /-- The address register (rule R21). -/
  a : Word
  /-- The data register (rule R22). -/
  d : Word
  /-- The program counter (rule R25). -/
  pc : Addr
  deriving DecidableEq, Repr

/-- The input ports of the core, sampled once per cycle (rule R29). -/
structure Inputs where
  instruction : Word
  inM : Word
  reset : Bool
  deriving DecidableEq, Repr

/-- The output ports of the core, valid in the cycle, before the clock edge (rule R30). -/
structure Outputs where
  outM : Word
  writeM : Bool
  addressM : Addr
  pc : Addr
  deriving DecidableEq, Repr

/-- One word of a memory at its word address. The core has no bytes (rules R45 and R46): the addressable unit is the 16-bit
word. Assumption log entry 1. -/
abbrev WordCell := Nat × Word

/-- A memory: the words that differ from what an unlisted address reads as, addresses strictly rising. -/
abbrev Memory := List WordCell

/-- Why a step has no next state. The hardware itself never stops: these are the two `ModelFault`s of rule R222, and nothing
else. -/
inductive Fault where
  /-- `ModelFault(PcOverflow)`, raised by any instruction that would increment PC from 0x7FFF, only where
  `Config.pcOverflow` is `fault` (rule R161). Safe: a run that wraps on the hardware has no next state here. -/
  | pcOverflow
  /-- `ModelFault(FetchUnloaded(pc))`, raised by the fetch of `step` at an address the program image does not define (rule
  R48). Safe: the hardware would run whatever word is there. -/
  | fetchUnloaded (pc : Addr)
  deriving DecidableEq, Repr

/-- Why an instruction has no meaning in the model. No arm of `exec` answers so: every instruction has its meaning. -/
inductive Refusal where
  /-- An instruction whose meaning is not written yet, by its mnemonic; raised by an arm of `exec`. Safe. -/
  | notModelled (mnemonic : String)
  deriving DecidableEq, Repr

/-- What a data address that is not listed reads as. The spec gives the initial data memory no default (decision D7); the
model lists the words of `ram0` that are not zero. DESIGN CHOICE, unsafe. Assumption log entry 3. -/
def unlistedWord : Word := 0x0000#16

/-- The whole state: the core, its memories and its pending inputs. -/
structure State where
  /-- A, D and PC (rule R20). -/
  regs : RegisterState
  /-- The data memory `ram` (rules R40 and R48). -/
  ram : Memory
  /-- The instruction memory `rom`; an address that is not listed is UNLOADED (rules R40 and R48). -/
  rom : Memory
  /-- The open parameter `devices`: the data addresses whose reads and writes the platform defines, no address twice; fixed for
  a run (rule R8, decision D7). -/
  devices : List Addr
  /-- The values of the `reset` input in this cycle and the coming ones; 0 in every cycle not listed (decision D13). -/
  resetInputs : List Bool
  /-- The model's own: the number of cycles completed; it picks the free value of the cycle. No instruction reads it. -/
  cycle : Nat
  /-- The model's own: the output ports in the last completed cycle (rules R30 and R200); none before the first cycle. -/
  outputs : Option Outputs
  deriving DecidableEq, Repr

/-- The machine right after construct: "zeroes A, D, PC" (rules R35 and R253). No program is loaded, no word of data
memory is listed, and `devices` is its default, the empty set (decision D7). -/
def State.reset : State :=
  { regs := { a := 0x0000#16, d := 0x0000#16, pc := 0x0000#15 }
    ram := []
    rom := []
    devices := []
    resetInputs := []
    cycle := 0
    outputs := none }

end Sys2Proof.Machine
end

