-- ==== Sys2Proof/Machine/Ops.lean ====
section
/-! DEFINITION. The named operations over memory, registers and the program counter. The core takes no exception and returns
from none (spec/60_exceptions.md rules R220, R225 and R226), so no such operation exists; the one forced change of control is
the `reset` input, in `nextPc`. -/

namespace Sys2Proof.Machine

/-- The word listed at an address, if one is. -/
def Memory.find? : Memory → Nat → Option Word
  | [], _ => none
  | (k, v) :: rest, p => if k = p then some v else Memory.find? rest p

/-- List a word at an address, in place of the one listed there. -/
def Memory.insert : Memory → Nat → Word → Memory
  | [], p, v => [(p, v)]
  | (k, w) :: rest, p, v =>
    if p < k then (p, v) :: (k, w) :: rest
    else if p = k then (p, v) :: rest
    else (k, w) :: Memory.insert rest p v

/-- Take an address off the list. -/
def Memory.erase : Memory → Nat → Memory
  | [], _ => []
  | (k, w) :: rest, p => if k = p then Memory.erase rest p else (k, w) :: Memory.erase rest p

/-- The word plain storage holds at a data address (rule R48). Every address is readable (rules R47 and R53). -/
def Memory.read (m : Memory) (p : Addr) : Word := (m.find? p.toNat).getD unlistedWord

/-- The plain storage with v at a data address (rule R48). -/
def Memory.write (m : Memory) (p : Addr) (v : Word) : Memory :=
  if v = unlistedWord then m.erase p.toNat else m.insert p.toNat v

/-- `rom(pc)`: the instruction word at an address, or none where it is UNLOADED (rule R48). -/
def Memory.fetch? (m : Memory) (p : Addr) : Option Word := m.find? p.toNat

/-- The instruction memory with a word loaded at an address, a move of the host before a run (decision D6, host table H1). -/
def Memory.load (m : Memory) (p : Addr) (w : Word) : Memory := m.insert p.toNat w

/-- Addresses strictly rising, all of them at least `lo`. -/
def Memory.risingFrom : Nat → Memory → Bool
  | _, [] => true
  | lo, (k, _) :: rest => decide (lo ≤ k) && Memory.risingFrom (k + 1) rest

/-- The instruction memory is in its canonical form: addresses strictly rising, below 2^15 (rule R40). -/
def Memory.loaded (m : Memory) : Bool :=
  Memory.risingFrom 0 m && m.all fun c => decide (c.1 < 2 ^ 15)

/-- The data memory is in its canonical form: addresses strictly rising and below 2^15 (rule R40), and no word listed that
an unlisted address reads as. -/
def Memory.wf (m : Memory) : Bool :=
  m.loaded && m.all fun c => decide (c.2 ≠ unlistedWord)

/-- A register cell at the clock edge: the value supplied if its load enable is asserted, else retained (rule R140). -/
def cellNext (load : Option Word) (cell : Word) : Word := load.getD cell

/-- `inc(PC)`: PC + 1; at 0x7FFF as the parameter `pcOverflow` says, none being `ModelFault(PcOverflow)` (rule R161). -/
def incPc (policy : PcOverflow) (pc : Addr) : Option Addr :=
  if pc = 0x7FFF#15 then
    match policy with
    | .wrap => some 0x0000#15
    | .fault => none
  else some (pc + 1)

/-- The next PC in priority order: reset, a taken jump, the increment (rules R160, R163 and R224). -/
def nextPc (policy : PcOverflow) (reset takeJump : Bool) (target pc : Addr) : Option Addr :=
  if reset then some 0x0000#15
  else if takeJump then some target
  else incPc policy pc

/-- The `reset` input in this cycle: 0 where the host names no value (decision D13). -/
def State.resetNow (s : State) : Bool := s.resetInputs.headD false

/-- The clock edge for A, D and PC, all three at once (rule R28). -/
def State.setRegs (s : State) (r : RegisterState) : State := { s with regs := r }

/-- The data address belongs to a device of the platform (rule R8, decision D7). -/
def State.isDevice (s : State) (p : Addr) : Bool := s.devices.contains p

/-- `MemRead(addr, 1)`: the word the data memory presents for an address (rules R12 and R48); at a device address the free value
of the cycle (decision D7, assumption log entry 10). -/
def State.dataWord (s : State) (p : Addr) : Word :=
  if s.isDevice p then Config.deviceWord s.cycle p else s.ram.read p

/-- `MemWrite(addr, 1, v)`: the clock edge for the data memory (rules R12, R43 and R48). A device address holds no storage: the
write reaches the platform through the ports alone (decision D7, assumption log entry 10). -/
def State.store (s : State) (p : Addr) (v : Word) : State :=
  { s with ram := if s.isDevice p then s.ram else s.ram.write p v }

/-- The end of a cycle for the model's bookkeeping: its reset input is consumed, its number counted, its ports recorded. -/
def State.tick (s : State) (o : Outputs) : State :=
  { s with resetInputs := s.resetInputs.tail, cycle := s.cycle + 1, outputs := some o }

/-- The instruction word the instruction memory presents for the pre-commit PC (rules R25 and R48). -/
def fetch (s : State) : Option Word := s.rom.fetch? s.regs.pc

end Sys2Proof.Machine
end

