-- ==== Sys2Proof/Machine/Operands.lean ====
section
/-! DEFINITION. The operand forms of spec/30_encoding.md rule R71: x is D, y is A or the memory word at A[14:0], and the data
address and the jump target are A[14:0]. Every one reads the pre-commit registers (spec/10_state.md rule R27). -/

namespace Sys2Proof.Machine

/-- `trunc_15(v)`: bits 14..0 of a word (rule R10). -/
def trunc15 (v : Word) : Addr := v.setWidth 15

/-- `zext_16(v)`: a 15-bit value as a word with bit 15 zero (rules R10 and R65). -/
def zext16 (v : Addr) : Word := v.setWidth 16

/-- `addressM` = A[14:0] of the pre-commit A, the only addressing mode (rules R44 and R208). -/
def addressM (s : State) : Addr := trunc15 s.regs.a

/-- The jump target, A[14:0] of the pre-commit A (rule R162). -/
def jumpTarget (s : State) : Addr := trunc15 s.regs.a

/-- `inM`: the data word at `addressM`, in the same cycle (rules R42 and R48). -/
def inM (s : State) : Word := s.dataWord (addressM s)

/-- The ALU's x operand: always D (rules R22 and R86). -/
def xOperand (s : State) : Word := s.regs.d

/-- The ALU's y operand: `inM` where the a bit is 1, else all 16 bits of A (rule R181). -/
def yOperand (a : Bool) (s : State) : Word := if a then inM s else s.regs.a

end Sys2Proof.Machine
end

