-- ==== Sys2Proof/Machine/Flags.lean ====
section
/-! DEFINITION. The two flags of the ALU result, which are derived and not stored (spec/10_state.md rule R26), and the
JumpConditionUnit they drive (spec/41_jump.md rule R120). -/

namespace Sys2Proof.Machine

/-- `zr`: the final ALU output is zero (rule R83). -/
def zr (out : Word) : Bool := out == 0x0000#16

/-- `ng`: bit 15 of the final ALU output (rule R84). -/
def ng (out : Word) : Bool := out.getLsbD 15

/-- The JumpConditionUnit: the table of rule R120, also on the pair zr = ng = 1 that no ALU result gives (rule R131, decision
D16). -/
def jumpCond (j : Jump) (zr ng : Bool) : Bool :=
  match j with
  | .never => false
  | .jgt => !zr && !ng
  | .jeq => zr
  | .jge => zr || !ng
  | .jlt => ng
  | .jne => !zr
  | .jle => zr || ng
  | .jmp => true

end Sys2Proof.Machine
end

