-- ==== Sys2Proof/Machine/Alu.lean ====
section
/-! DEFINITION. The ArithmeticLogicUnit: the algorithm of spec/40_alu.md rule R81, defined for all 64 control patterns
(conflict C2). -/

namespace Sys2Proof.Machine

/-- One input of the ALU: zeroed if its z bit is set, then inverted if its n bit is set, in that order (rule R81). -/
def aluInput (z n : Bool) (v : Word) : Word :=
  let zeroed := if z then 0x0000#16 else v
  if n then ~~~zeroed else zeroed

/-- The ALU's `out`; addition is modulo 2^16 (rules R81 and R82). -/
def alu (x y : Word) (c : Control) : Word :=
  let x' := aluInput c.zx c.nx x
  let y' := aluInput c.zy c.ny y
  let out := if c.f then x' + y' else x' &&& y'
  if c.no then ~~~out else out

end Sys2Proof.Machine
end

