-- ==== Sys2Proof/Machine/Cycle.lean ====
section
/-! DEFINITION. The two shared operations every meaning is written over: the clock edge of a cycle and the C-instruction with
its comp field as an argument. -/

namespace Sys2Proof.Machine

/-- The output ports of the cycle; `write` is the word written to memory, if one is. Without a write `outM` is the free value
`outMDraw` (rules R30 and R201). -/
def outputsOf (s : State) (write : Option Word) : Outputs :=
  { outM := write.getD (Config.outMDraw s.cycle)
    writeM := write.isSome
    addressM := addressM s
    pc := s.regs.pc }

/-- The data memory at the clock edge: the word written at `addressM`, if one is (rule R48). -/
def storeIf (s : State) (write : Option Word) : State :=
  match write with
  | none => s
  | some v => s.store (addressM s) v

/-- The clock edge (rules R28, R48 and R203): A and D load, the memory write lands and PC takes its next value, all from
pre-commit values. Where PC has no next value nothing is committed. -/
def commitCycle (s : State) (loadA loadD write : Option Word) (takeJump : Bool) : Host.Outcome State Fault Refusal :=
  match nextPc Config.pcOverflow s.resetNow takeJump (jumpTarget s) s.regs.pc with
  | none => .fault .pcOverflow
  | some pc' =>
    .next (((storeIf s write).setRegs
      { a := cellNext loadA s.regs.a, d := cellNext loadD s.regs.d, pc := pc' }).tick (outputsOf s write))

/-- A load or a write that happens only if its dest bit is 1 (rules R141 to R143). -/
def whenSet (dest : Bool) (v : Word) : Option Word := if dest then some v else none

/-- The C-instruction with a bit `a` and control bits `c` (rule R180): the ALU's result goes to each destination the dest
field names, and its own flags decide the jump (rule R187). -/
def compute (a : Bool) (c : BitVec 6) (d : Dest) (j : Jump) (s : State) : Host.Outcome State Fault Refusal :=
  let out := alu (xOperand s) (yOperand a s) (controlOf c)
  commitCycle s (whenSet d.toA out) (whenSet d.toD out) (whenSet d.toM out) (jumpCond j (zr out) (ng out))

end Sys2Proof.Machine
end

