-- ==== Sys2Proof/Machine/CpuStep.lean ====
section
/-! DEFINITION. CpuStep, the composing unit, over the raw instruction word as spec/46_cpu_step.md rule R201 writes it, and the
harness cycle of spec/20_memory.md rule R48 around it. The machine of `exec` runs instructions one constructor at a time;
this file is the same cycle on the ports and signals of the core. -/

namespace Sys2Proof.Machine

/-- Port values from numbers; a number that does not fit its port is refused (rule R206, decision D9). -/
def inputsOfRaw? (r : RawInputs) : Option Inputs :=
  if r.fits then
    some { instruction := BitVec.ofNat 16 r.instruction, inM := BitVec.ofNat 16 r.inM, reset := decide (r.reset = 1) }
  else none

/-- The ALU result of a cycle: `ALU(D, y, c)` with y = `inM` where the a bit is 1, else A (rule R201). -/
def cpuResult (r : RegisterState) (i : Inputs) : Word :=
  alu r.d (if (signals i.instruction).a then i.inM else r.a) (signals i.instruction).control

/-- `takeJump`: gated by the instruction class (rules R129 and R201). -/
def cpuTakeJump (r : RegisterState) (i : Inputs) : Bool :=
  (signals i.instruction).isCompute
    && jumpCond (signals i.instruction).jumpCode (zr (cpuResult r i)) (ng (cpuResult r i))

/-- Phase 1 of CpuStep, the output ports (rule R201); `draw` is `outMDraw`. -/
def cpuOutputs (draw : Word) (r : RegisterState) (i : Inputs) : Outputs :=
  { outM := if (signals i.instruction).loadM then cpuResult r i else draw
    writeM := (signals i.instruction).loadM
    addressM := trunc15 r.a
    pc := r.pc }

/-- Phase 2 of CpuStep, the next register state (rule R201); none is `ModelFault(PcOverflow)`. -/
def cpuNext (policy : PcOverflow) (r : RegisterState) (i : Inputs) : Option RegisterState :=
  match nextPc policy i.reset (cpuTakeJump r i) (trunc15 r.a) r.pc with
  | none => none
  | some pc' =>
    some
      { a :=
          if (signals i.instruction).loadA then
            (if (signals i.instruction).isCompute then cpuResult r i else i.instruction)
          else r.a
        d := if (signals i.instruction).loadD then cpuResult r i else r.d
        pc := pc' }

/-- CpuStep: the combinational outputs and the committed state of one cycle (rules R200, R201 and R210). -/
def cpuStep (policy : PcOverflow) (draw : Word) (r : RegisterState) (i : Inputs) : Outputs × Option RegisterState :=
  (cpuOutputs draw r i, cpuNext policy r i)

/-- The inputs the harness presents in a cycle that executes the word w (rule R48). -/
def harnessInputs (w : Word) (s : State) : Inputs :=
  { instruction := w, inM := s.dataWord (trunc15 s.regs.a), reset := s.resetNow }

/-- The harness cycle on a fetched word w: CpuStep, then the clock edge for the memory and the registers (rule R48). -/
def harnessCycle (w : Word) (s : State) : Host.Outcome State Fault Refusal :=
  match cpuStep Config.pcOverflow (Config.outMDraw s.cycle) s.regs (harnessInputs w s) with
  | (_, none) => .fault .pcOverflow
  | (o, some r) => .next (((if o.writeM then s.store o.addressM o.outM else s).setRegs r).tick o)

/-- A memory event (rule R50). -/
inductive MemEvent where
  | read (p : Addr) (v : Word)
  | write (p : Addr) (v : Word)
  deriving DecidableEq, Repr

/-- The memory events of a cycle that executes the word w: a data read only for a C-instruction with a = 1, a write in every
cycle with `writeM` = 1, the read first (rule R50, decision D12). They are a function of the word and the state before the
cycle. Whether a cycle that ends in `ModelFault(PcOverflow)` records events the spec does not say: here such a cycle has them
too, its write among them, although nothing is committed. DESIGN CHOICE, assumption log entry 15. -/
def cycleEvents (w : Word) (s : State) : List MemEvent :=
  let i := harnessInputs w s
  let o := cpuOutputs (Config.outMDraw s.cycle) s.regs i
  (if (signals w).isCompute && (signals w).a then [.read o.addressM i.inM] else [])
    ++ (if o.writeM then [.write o.addressM o.outM] else [])

end Sys2Proof.Machine
end

