-- ==== Sys2Proof/Machine/Address.lean ====
section
/-! DEFINITION. The A-instruction of spec/44_address_instruction.md. -/

namespace Sys2Proof.Machine

/-- `@v` (rule R170): A takes the instruction word, which is the literal zero-extended (rule R65). D is not loaded, nothing
is written and no jump is taken (rule R171). -/
def execAtValue (v : Addr) (s : State) : Host.Outcome State Fault Refusal :=
  commitCycle s (some (zext16 v)) none none false

end Sys2Proof.Machine
end

