-- ==== Sys2Proof/Machine/ComputeA.lean ====
section
/-! DEFINITION. The C-instructions with a = 0, whose y operand is A: one meaning per row of spec/opcode_table.json, each the shared
`compute` at its control bits (spec/45_compute_instruction.md rule R180, spec/40_alu.md rules R90 to R109). -/

namespace Sys2Proof.Machine

/-- D&A (rule R107): out = D&A. -/
def execCompDAndA (d : Dest) (j : Jump) (s : State) : Host.Outcome State Fault Refusal :=
  compute false 0b000000#6 d j s

/-- a = 0, c = 000001 (rule R109): out = ~(D&A). -/
def execCompA0C000001 (d : Dest) (j : Jump) (s : State) : Host.Outcome State Fault Refusal :=
  compute false 0b000001#6 d j s

/-- D+A (rule R104): out = D+A. -/
def execCompDPlusA (d : Dest) (j : Jump) (s : State) : Host.Outcome State Fault Refusal :=
  compute false 0b000010#6 d j s

/-- a = 0, c = 000011 (rule R109): out = ~(D+A) (= -D-A-1). -/
def execCompA0C000011 (d : Dest) (j : Jump) (s : State) : Host.Outcome State Fault Refusal :=
  compute false 0b000011#6 d j s

/-- a = 0, c = 000100 (rule R109): out = D&~A. -/
def execCompA0C000100 (d : Dest) (j : Jump) (s : State) : Host.Outcome State Fault Refusal :=
  compute false 0b000100#6 d j s

/-- a = 0, c = 000101 (rule R109): out = ~D|A. -/
def execCompA0C000101 (d : Dest) (j : Jump) (s : State) : Host.Outcome State Fault Refusal :=
  compute false 0b000101#6 d j s

/-- a = 0, c = 000110 (rule R109): out = D+~A (= D-A-1). -/
def execCompA0C000110 (d : Dest) (j : Jump) (s : State) : Host.Outcome State Fault Refusal :=
  compute false 0b000110#6 d j s

/-- A-D (rule R106): out = A-D. -/
def execCompAMinusD (d : Dest) (j : Jump) (s : State) : Host.Outcome State Fault Refusal :=
  compute false 0b000111#6 d j s

/-- a = 0, c = 001000 (rule R109): out = 0 (independent of A). -/
def execCompA0C001000 (d : Dest) (j : Jump) (s : State) : Host.Outcome State Fault Refusal :=
  compute false 0b001000#6 d j s

/-- a = 0, c = 001001 (rule R109): out = -1 (0xFFFF) (independent of A). -/
def execCompA0C001001 (d : Dest) (j : Jump) (s : State) : Host.Outcome State Fault Refusal :=
  compute false 0b001001#6 d j s

/-- a = 0, c = 001010 (rule R109): out = D (independent of A). -/
def execCompA0C001010 (d : Dest) (j : Jump) (s : State) : Host.Outcome State Fault Refusal :=
  compute false 0b001010#6 d j s

/-- a = 0, c = 001011 (rule R109): out = ~D (= -D-1) (independent of A). -/
def execCompA0C001011 (d : Dest) (j : Jump) (s : State) : Host.Outcome State Fault Refusal :=
  compute false 0b001011#6 d j s

/-- D (rule R94): out = D (independent of A). -/
def execCompD (d : Dest) (j : Jump) (s : State) : Host.Outcome State Fault Refusal :=
  compute false 0b001100#6 d j s

/-- !D (rule R96): out = ~D (independent of A). -/
def execCompNotD (d : Dest) (j : Jump) (s : State) : Host.Outcome State Fault Refusal :=
  compute false 0b001101#6 d j s

/-- D-1 (rule R102): out = D-1 (independent of A). -/
def execCompDMinus1 (d : Dest) (j : Jump) (s : State) : Host.Outcome State Fault Refusal :=
  compute false 0b001110#6 d j s

/-- -D (rule R98): out = -D (independent of A). -/
def execCompNegD (d : Dest) (j : Jump) (s : State) : Host.Outcome State Fault Refusal :=
  compute false 0b001111#6 d j s

/-- a = 0, c = 010000 (rule R109): out = ~D&A. -/
def execCompA0C010000 (d : Dest) (j : Jump) (s : State) : Host.Outcome State Fault Refusal :=
  compute false 0b010000#6 d j s

/-- a = 0, c = 010001 (rule R109): out = D|~A. -/
def execCompA0C010001 (d : Dest) (j : Jump) (s : State) : Host.Outcome State Fault Refusal :=
  compute false 0b010001#6 d j s

/-- a = 0, c = 010010 (rule R109): out = ~D+A (= A-D-1). -/
def execCompA0C010010 (d : Dest) (j : Jump) (s : State) : Host.Outcome State Fault Refusal :=
  compute false 0b010010#6 d j s

/-- D-A (rule R105): out = D-A. -/
def execCompDMinusA (d : Dest) (j : Jump) (s : State) : Host.Outcome State Fault Refusal :=
  compute false 0b010011#6 d j s

/-- a = 0, c = 010100 (rule R109): out = ~(D|A). -/
def execCompA0C010100 (d : Dest) (j : Jump) (s : State) : Host.Outcome State Fault Refusal :=
  compute false 0b010100#6 d j s

/-- D|A (rule R108): out = D|A. -/
def execCompDOrA (d : Dest) (j : Jump) (s : State) : Host.Outcome State Fault Refusal :=
  compute false 0b010101#6 d j s

/-- a = 0, c = 010110 (rule R109): out = ~D+~A (= -D-A-2). -/
def execCompA0C010110 (d : Dest) (j : Jump) (s : State) : Host.Outcome State Fault Refusal :=
  compute false 0b010110#6 d j s

/-- a = 0, c = 010111 (rule R109): out = D+A+1. -/
def execCompA0C010111 (d : Dest) (j : Jump) (s : State) : Host.Outcome State Fault Refusal :=
  compute false 0b010111#6 d j s

/-- a = 0, c = 011000 (rule R109): out = 0 (independent of A). -/
def execCompA0C011000 (d : Dest) (j : Jump) (s : State) : Host.Outcome State Fault Refusal :=
  compute false 0b011000#6 d j s

/-- a = 0, c = 011001 (rule R109): out = -1 (0xFFFF) (independent of A). -/
def execCompA0C011001 (d : Dest) (j : Jump) (s : State) : Host.Outcome State Fault Refusal :=
  compute false 0b011001#6 d j s

/-- a = 0, c = 011010 (rule R109): out = ~D (= -D-1) (independent of A). -/
def execCompA0C011010 (d : Dest) (j : Jump) (s : State) : Host.Outcome State Fault Refusal :=
  compute false 0b011010#6 d j s

/-- a = 0, c = 011011 (rule R109): out = D (independent of A). -/
def execCompA0C011011 (d : Dest) (j : Jump) (s : State) : Host.Outcome State Fault Refusal :=
  compute false 0b011011#6 d j s

/-- a = 0, c = 011100 (rule R109): out = ~D (independent of A). -/
def execCompA0C011100 (d : Dest) (j : Jump) (s : State) : Host.Outcome State Fault Refusal :=
  compute false 0b011100#6 d j s

/-- a = 0, c = 011101 (rule R109): out = D (independent of A). -/
def execCompA0C011101 (d : Dest) (j : Jump) (s : State) : Host.Outcome State Fault Refusal :=
  compute false 0b011101#6 d j s

/-- a = 0, c = 011110 (rule R109): out = ~D-1 (= -D-2) (independent of A). -/
def execCompA0C011110 (d : Dest) (j : Jump) (s : State) : Host.Outcome State Fault Refusal :=
  compute false 0b011110#6 d j s

/-- D+1 (rule R100): out = D+1 (independent of A). -/
def execCompDPlus1 (d : Dest) (j : Jump) (s : State) : Host.Outcome State Fault Refusal :=
  compute false 0b011111#6 d j s

/-- a = 0, c = 100000 (rule R109): out = 0 (independent of A). -/
def execCompA0C100000 (d : Dest) (j : Jump) (s : State) : Host.Outcome State Fault Refusal :=
  compute false 0b100000#6 d j s

/-- a = 0, c = 100001 (rule R109): out = -1 (0xFFFF) (independent of A). -/
def execCompA0C100001 (d : Dest) (j : Jump) (s : State) : Host.Outcome State Fault Refusal :=
  compute false 0b100001#6 d j s

/-- a = 0, c = 100010 (rule R109): out = A. -/
def execCompA0C100010 (d : Dest) (j : Jump) (s : State) : Host.Outcome State Fault Refusal :=
  compute false 0b100010#6 d j s

/-- a = 0, c = 100011 (rule R109): out = ~A (= -A-1). -/
def execCompA0C100011 (d : Dest) (j : Jump) (s : State) : Host.Outcome State Fault Refusal :=
  compute false 0b100011#6 d j s

/-- a = 0, c = 100100 (rule R109): out = 0 (independent of A). -/
def execCompA0C100100 (d : Dest) (j : Jump) (s : State) : Host.Outcome State Fault Refusal :=
  compute false 0b100100#6 d j s

/-- a = 0, c = 100101 (rule R109): out = -1 (0xFFFF) (independent of A). -/
def execCompA0C100101 (d : Dest) (j : Jump) (s : State) : Host.Outcome State Fault Refusal :=
  compute false 0b100101#6 d j s

/-- a = 0, c = 100110 (rule R109): out = ~A (= -A-1). -/
def execCompA0C100110 (d : Dest) (j : Jump) (s : State) : Host.Outcome State Fault Refusal :=
  compute false 0b100110#6 d j s

/-- a = 0, c = 100111 (rule R109): out = A. -/
def execCompA0C100111 (d : Dest) (j : Jump) (s : State) : Host.Outcome State Fault Refusal :=
  compute false 0b100111#6 d j s

/-- a = 0, c = 101000 (rule R109): out = 0 (independent of A). -/
def execCompA0C101000 (d : Dest) (j : Jump) (s : State) : Host.Outcome State Fault Refusal :=
  compute false 0b101000#6 d j s

/-- a = 0, c = 101001 (rule R109): out = -1 (0xFFFF) (independent of A). -/
def execCompA0C101001 (d : Dest) (j : Jump) (s : State) : Host.Outcome State Fault Refusal :=
  compute false 0b101001#6 d j s

/-- 0 (rule R91): out = 0 (independent of A). -/
def execComp0 (d : Dest) (j : Jump) (s : State) : Host.Outcome State Fault Refusal :=
  compute false 0b101010#6 d j s

/-- a = 0, c = 101011 (rule R109): out = -1 (0xFFFF) (independent of A). -/
def execCompA0C101011 (d : Dest) (j : Jump) (s : State) : Host.Outcome State Fault Refusal :=
  compute false 0b101011#6 d j s

/-- a = 0, c = 101100 (rule R109): out = 0 (independent of A). -/
def execCompA0C101100 (d : Dest) (j : Jump) (s : State) : Host.Outcome State Fault Refusal :=
  compute false 0b101100#6 d j s

/-- a = 0, c = 101101 (rule R109): out = -1 (0xFFFF) (independent of A). -/
def execCompA0C101101 (d : Dest) (j : Jump) (s : State) : Host.Outcome State Fault Refusal :=
  compute false 0b101101#6 d j s

/-- a = 0, c = 101110 (rule R109): out = -1 (0xFFFF) (independent of A). -/
def execCompA0C101110 (d : Dest) (j : Jump) (s : State) : Host.Outcome State Fault Refusal :=
  compute false 0b101110#6 d j s

/-- a = 0, c = 101111 (rule R109): out = 0 (independent of A). -/
def execCompA0C101111 (d : Dest) (j : Jump) (s : State) : Host.Outcome State Fault Refusal :=
  compute false 0b101111#6 d j s

/-- A (rule R95): out = A. -/
def execCompA (d : Dest) (j : Jump) (s : State) : Host.Outcome State Fault Refusal :=
  compute false 0b110000#6 d j s

/-- !A (rule R97): out = ~A. -/
def execCompNotA (d : Dest) (j : Jump) (s : State) : Host.Outcome State Fault Refusal :=
  compute false 0b110001#6 d j s

/-- A-1 (rule R103): out = A-1. -/
def execCompAMinus1 (d : Dest) (j : Jump) (s : State) : Host.Outcome State Fault Refusal :=
  compute false 0b110010#6 d j s

/-- -A (rule R99): out = -A. -/
def execCompNegA (d : Dest) (j : Jump) (s : State) : Host.Outcome State Fault Refusal :=
  compute false 0b110011#6 d j s

/-- a = 0, c = 110100 (rule R109): out = ~A. -/
def execCompA0C110100 (d : Dest) (j : Jump) (s : State) : Host.Outcome State Fault Refusal :=
  compute false 0b110100#6 d j s

/-- a = 0, c = 110101 (rule R109): out = A. -/
def execCompA0C110101 (d : Dest) (j : Jump) (s : State) : Host.Outcome State Fault Refusal :=
  compute false 0b110101#6 d j s

/-- a = 0, c = 110110 (rule R109): out = ~A-1 (= -A-2). -/
def execCompA0C110110 (d : Dest) (j : Jump) (s : State) : Host.Outcome State Fault Refusal :=
  compute false 0b110110#6 d j s

/-- A+1 (rule R101): out = A+1. -/
def execCompAPlus1 (d : Dest) (j : Jump) (s : State) : Host.Outcome State Fault Refusal :=
  compute false 0b110111#6 d j s

/-- a = 0, c = 111000 (rule R109): out = 0 (independent of A). -/
def execCompA0C111000 (d : Dest) (j : Jump) (s : State) : Host.Outcome State Fault Refusal :=
  compute false 0b111000#6 d j s

/-- a = 0, c = 111001 (rule R109): out = -1 (0xFFFF) (independent of A). -/
def execCompA0C111001 (d : Dest) (j : Jump) (s : State) : Host.Outcome State Fault Refusal :=
  compute false 0b111001#6 d j s

/-- -1 (rule R93): out = -1 (0xFFFF) (independent of A). -/
def execCompNeg1 (d : Dest) (j : Jump) (s : State) : Host.Outcome State Fault Refusal :=
  compute false 0b111010#6 d j s

/-- a = 0, c = 111011 (rule R109): out = 0 (independent of A). -/
def execCompA0C111011 (d : Dest) (j : Jump) (s : State) : Host.Outcome State Fault Refusal :=
  compute false 0b111011#6 d j s

/-- a = 0, c = 111100 (rule R109): out = -1 (0xFFFF) (independent of A). -/
def execCompA0C111100 (d : Dest) (j : Jump) (s : State) : Host.Outcome State Fault Refusal :=
  compute false 0b111100#6 d j s

/-- a = 0, c = 111101 (rule R109): out = 0 (independent of A). -/
def execCompA0C111101 (d : Dest) (j : Jump) (s : State) : Host.Outcome State Fault Refusal :=
  compute false 0b111101#6 d j s

/-- a = 0, c = 111110 (rule R109): out = -2 (0xFFFE) (independent of A). -/
def execCompA0C111110 (d : Dest) (j : Jump) (s : State) : Host.Outcome State Fault Refusal :=
  compute false 0b111110#6 d j s

/-- 1 (rule R92): out = 1 (independent of A). -/
def execComp1 (d : Dest) (j : Jump) (s : State) : Host.Outcome State Fault Refusal :=
  compute false 0b111111#6 d j s

end Sys2Proof.Machine
end

