-- ==== Sys2Proof/Machine/ComputeM.lean ====
section
/-! DEFINITION. The C-instructions with a = 1, whose y operand is the memory word at A[14:0]: one meaning per row of
spec/opcode_table.json, each the shared `compute` at its control bits (spec/45_compute_instruction.md rules R180 and R181). -/

namespace Sys2Proof.Machine

/-- D&M (rule R107): out = D&M. -/
def execCompDAndM (d : Dest) (j : Jump) (s : State) : Host.Outcome State Fault Refusal :=
  compute true 0b000000#6 d j s

/-- a = 1, c = 000001 (rule R109): out = ~(D&M). -/
def execCompA1C000001 (d : Dest) (j : Jump) (s : State) : Host.Outcome State Fault Refusal :=
  compute true 0b000001#6 d j s

/-- D+M (rule R104): out = D+M. -/
def execCompDPlusM (d : Dest) (j : Jump) (s : State) : Host.Outcome State Fault Refusal :=
  compute true 0b000010#6 d j s

/-- a = 1, c = 000011 (rule R109): out = ~(D+M) (= -D-M-1). -/
def execCompA1C000011 (d : Dest) (j : Jump) (s : State) : Host.Outcome State Fault Refusal :=
  compute true 0b000011#6 d j s

/-- a = 1, c = 000100 (rule R109): out = D&~M. -/
def execCompA1C000100 (d : Dest) (j : Jump) (s : State) : Host.Outcome State Fault Refusal :=
  compute true 0b000100#6 d j s

/-- a = 1, c = 000101 (rule R109): out = ~D|M. -/
def execCompA1C000101 (d : Dest) (j : Jump) (s : State) : Host.Outcome State Fault Refusal :=
  compute true 0b000101#6 d j s

/-- a = 1, c = 000110 (rule R109): out = D+~M (= D-M-1). -/
def execCompA1C000110 (d : Dest) (j : Jump) (s : State) : Host.Outcome State Fault Refusal :=
  compute true 0b000110#6 d j s

/-- M-D (rule R106): out = M-D. -/
def execCompMMinusD (d : Dest) (j : Jump) (s : State) : Host.Outcome State Fault Refusal :=
  compute true 0b000111#6 d j s

/-- a = 1, c = 001000 (rule R109): out = 0 (independent of M). -/
def execCompA1C001000 (d : Dest) (j : Jump) (s : State) : Host.Outcome State Fault Refusal :=
  compute true 0b001000#6 d j s

/-- a = 1, c = 001001 (rule R109): out = -1 (0xFFFF) (independent of M). -/
def execCompA1C001001 (d : Dest) (j : Jump) (s : State) : Host.Outcome State Fault Refusal :=
  compute true 0b001001#6 d j s

/-- a = 1, c = 001010 (rule R109): out = D (independent of M). -/
def execCompA1C001010 (d : Dest) (j : Jump) (s : State) : Host.Outcome State Fault Refusal :=
  compute true 0b001010#6 d j s

/-- a = 1, c = 001011 (rule R109): out = ~D (= -D-1) (independent of M). -/
def execCompA1C001011 (d : Dest) (j : Jump) (s : State) : Host.Outcome State Fault Refusal :=
  compute true 0b001011#6 d j s

/-- a = 1, c = 001100 (rule R94): out = D (independent of M). -/
def execCompA1C001100 (d : Dest) (j : Jump) (s : State) : Host.Outcome State Fault Refusal :=
  compute true 0b001100#6 d j s

/-- a = 1, c = 001101 (rule R96): out = ~D (independent of M). -/
def execCompA1C001101 (d : Dest) (j : Jump) (s : State) : Host.Outcome State Fault Refusal :=
  compute true 0b001101#6 d j s

/-- a = 1, c = 001110 (rule R102): out = D-1 (independent of M). -/
def execCompA1C001110 (d : Dest) (j : Jump) (s : State) : Host.Outcome State Fault Refusal :=
  compute true 0b001110#6 d j s

/-- a = 1, c = 001111 (rule R98): out = -D (independent of M). -/
def execCompA1C001111 (d : Dest) (j : Jump) (s : State) : Host.Outcome State Fault Refusal :=
  compute true 0b001111#6 d j s

/-- a = 1, c = 010000 (rule R109): out = ~D&M. -/
def execCompA1C010000 (d : Dest) (j : Jump) (s : State) : Host.Outcome State Fault Refusal :=
  compute true 0b010000#6 d j s

/-- a = 1, c = 010001 (rule R109): out = D|~M. -/
def execCompA1C010001 (d : Dest) (j : Jump) (s : State) : Host.Outcome State Fault Refusal :=
  compute true 0b010001#6 d j s

/-- a = 1, c = 010010 (rule R109): out = ~D+M (= M-D-1). -/
def execCompA1C010010 (d : Dest) (j : Jump) (s : State) : Host.Outcome State Fault Refusal :=
  compute true 0b010010#6 d j s

/-- D-M (rule R105): out = D-M. -/
def execCompDMinusM (d : Dest) (j : Jump) (s : State) : Host.Outcome State Fault Refusal :=
  compute true 0b010011#6 d j s

/-- a = 1, c = 010100 (rule R109): out = ~(D|M). -/
def execCompA1C010100 (d : Dest) (j : Jump) (s : State) : Host.Outcome State Fault Refusal :=
  compute true 0b010100#6 d j s

/-- D|M (rule R108): out = D|M. -/
def execCompDOrM (d : Dest) (j : Jump) (s : State) : Host.Outcome State Fault Refusal :=
  compute true 0b010101#6 d j s

/-- a = 1, c = 010110 (rule R109): out = ~D+~M (= -D-M-2). -/
def execCompA1C010110 (d : Dest) (j : Jump) (s : State) : Host.Outcome State Fault Refusal :=
  compute true 0b010110#6 d j s

/-- a = 1, c = 010111 (rule R109): out = D+M+1. -/
def execCompA1C010111 (d : Dest) (j : Jump) (s : State) : Host.Outcome State Fault Refusal :=
  compute true 0b010111#6 d j s

/-- a = 1, c = 011000 (rule R109): out = 0 (independent of M). -/
def execCompA1C011000 (d : Dest) (j : Jump) (s : State) : Host.Outcome State Fault Refusal :=
  compute true 0b011000#6 d j s

/-- a = 1, c = 011001 (rule R109): out = -1 (0xFFFF) (independent of M). -/
def execCompA1C011001 (d : Dest) (j : Jump) (s : State) : Host.Outcome State Fault Refusal :=
  compute true 0b011001#6 d j s

/-- a = 1, c = 011010 (rule R109): out = ~D (= -D-1) (independent of M). -/
def execCompA1C011010 (d : Dest) (j : Jump) (s : State) : Host.Outcome State Fault Refusal :=
  compute true 0b011010#6 d j s

/-- a = 1, c = 011011 (rule R109): out = D (independent of M). -/
def execCompA1C011011 (d : Dest) (j : Jump) (s : State) : Host.Outcome State Fault Refusal :=
  compute true 0b011011#6 d j s

/-- a = 1, c = 011100 (rule R109): out = ~D (independent of M). -/
def execCompA1C011100 (d : Dest) (j : Jump) (s : State) : Host.Outcome State Fault Refusal :=
  compute true 0b011100#6 d j s

/-- a = 1, c = 011101 (rule R109): out = D (independent of M). -/
def execCompA1C011101 (d : Dest) (j : Jump) (s : State) : Host.Outcome State Fault Refusal :=
  compute true 0b011101#6 d j s

/-- a = 1, c = 011110 (rule R109): out = ~D-1 (= -D-2) (independent of M). -/
def execCompA1C011110 (d : Dest) (j : Jump) (s : State) : Host.Outcome State Fault Refusal :=
  compute true 0b011110#6 d j s

/-- a = 1, c = 011111 (rule R100): out = D+1 (independent of M). -/
def execCompA1C011111 (d : Dest) (j : Jump) (s : State) : Host.Outcome State Fault Refusal :=
  compute true 0b011111#6 d j s

/-- a = 1, c = 100000 (rule R109): out = 0 (independent of M). -/
def execCompA1C100000 (d : Dest) (j : Jump) (s : State) : Host.Outcome State Fault Refusal :=
  compute true 0b100000#6 d j s

/-- a = 1, c = 100001 (rule R109): out = -1 (0xFFFF) (independent of M). -/
def execCompA1C100001 (d : Dest) (j : Jump) (s : State) : Host.Outcome State Fault Refusal :=
  compute true 0b100001#6 d j s

/-- a = 1, c = 100010 (rule R109): out = M. -/
def execCompA1C100010 (d : Dest) (j : Jump) (s : State) : Host.Outcome State Fault Refusal :=
  compute true 0b100010#6 d j s

/-- a = 1, c = 100011 (rule R109): out = ~M (= -M-1). -/
def execCompA1C100011 (d : Dest) (j : Jump) (s : State) : Host.Outcome State Fault Refusal :=
  compute true 0b100011#6 d j s

/-- a = 1, c = 100100 (rule R109): out = 0 (independent of M). -/
def execCompA1C100100 (d : Dest) (j : Jump) (s : State) : Host.Outcome State Fault Refusal :=
  compute true 0b100100#6 d j s

/-- a = 1, c = 100101 (rule R109): out = -1 (0xFFFF) (independent of M). -/
def execCompA1C100101 (d : Dest) (j : Jump) (s : State) : Host.Outcome State Fault Refusal :=
  compute true 0b100101#6 d j s

/-- a = 1, c = 100110 (rule R109): out = ~M (= -M-1). -/
def execCompA1C100110 (d : Dest) (j : Jump) (s : State) : Host.Outcome State Fault Refusal :=
  compute true 0b100110#6 d j s

/-- a = 1, c = 100111 (rule R109): out = M. -/
def execCompA1C100111 (d : Dest) (j : Jump) (s : State) : Host.Outcome State Fault Refusal :=
  compute true 0b100111#6 d j s

/-- a = 1, c = 101000 (rule R109): out = 0 (independent of M). -/
def execCompA1C101000 (d : Dest) (j : Jump) (s : State) : Host.Outcome State Fault Refusal :=
  compute true 0b101000#6 d j s

/-- a = 1, c = 101001 (rule R109): out = -1 (0xFFFF) (independent of M). -/
def execCompA1C101001 (d : Dest) (j : Jump) (s : State) : Host.Outcome State Fault Refusal :=
  compute true 0b101001#6 d j s

/-- a = 1, c = 101010 (rule R91): out = 0 (independent of M). -/
def execCompA1C101010 (d : Dest) (j : Jump) (s : State) : Host.Outcome State Fault Refusal :=
  compute true 0b101010#6 d j s

/-- a = 1, c = 101011 (rule R109): out = -1 (0xFFFF) (independent of M). -/
def execCompA1C101011 (d : Dest) (j : Jump) (s : State) : Host.Outcome State Fault Refusal :=
  compute true 0b101011#6 d j s

/-- a = 1, c = 101100 (rule R109): out = 0 (independent of M). -/
def execCompA1C101100 (d : Dest) (j : Jump) (s : State) : Host.Outcome State Fault Refusal :=
  compute true 0b101100#6 d j s

/-- a = 1, c = 101101 (rule R109): out = -1 (0xFFFF) (independent of M). -/
def execCompA1C101101 (d : Dest) (j : Jump) (s : State) : Host.Outcome State Fault Refusal :=
  compute true 0b101101#6 d j s

/-- a = 1, c = 101110 (rule R109): out = -1 (0xFFFF) (independent of M). -/
def execCompA1C101110 (d : Dest) (j : Jump) (s : State) : Host.Outcome State Fault Refusal :=
  compute true 0b101110#6 d j s

/-- a = 1, c = 101111 (rule R109): out = 0 (independent of M). -/
def execCompA1C101111 (d : Dest) (j : Jump) (s : State) : Host.Outcome State Fault Refusal :=
  compute true 0b101111#6 d j s

/-- M (rule R95): out = M. -/
def execCompM (d : Dest) (j : Jump) (s : State) : Host.Outcome State Fault Refusal :=
  compute true 0b110000#6 d j s

/-- !M (rule R97): out = ~M. -/
def execCompNotM (d : Dest) (j : Jump) (s : State) : Host.Outcome State Fault Refusal :=
  compute true 0b110001#6 d j s

/-- M-1 (rule R103): out = M-1. -/
def execCompMMinus1 (d : Dest) (j : Jump) (s : State) : Host.Outcome State Fault Refusal :=
  compute true 0b110010#6 d j s

/-- -M (rule R99): out = -M. -/
def execCompNegM (d : Dest) (j : Jump) (s : State) : Host.Outcome State Fault Refusal :=
  compute true 0b110011#6 d j s

/-- a = 1, c = 110100 (rule R109): out = ~M. -/
def execCompA1C110100 (d : Dest) (j : Jump) (s : State) : Host.Outcome State Fault Refusal :=
  compute true 0b110100#6 d j s

/-- a = 1, c = 110101 (rule R109): out = M. -/
def execCompA1C110101 (d : Dest) (j : Jump) (s : State) : Host.Outcome State Fault Refusal :=
  compute true 0b110101#6 d j s

/-- a = 1, c = 110110 (rule R109): out = ~M-1 (= -M-2). -/
def execCompA1C110110 (d : Dest) (j : Jump) (s : State) : Host.Outcome State Fault Refusal :=
  compute true 0b110110#6 d j s

/-- M+1 (rule R101): out = M+1. -/
def execCompMPlus1 (d : Dest) (j : Jump) (s : State) : Host.Outcome State Fault Refusal :=
  compute true 0b110111#6 d j s

/-- a = 1, c = 111000 (rule R109): out = 0 (independent of M). -/
def execCompA1C111000 (d : Dest) (j : Jump) (s : State) : Host.Outcome State Fault Refusal :=
  compute true 0b111000#6 d j s

/-- a = 1, c = 111001 (rule R109): out = -1 (0xFFFF) (independent of M). -/
def execCompA1C111001 (d : Dest) (j : Jump) (s : State) : Host.Outcome State Fault Refusal :=
  compute true 0b111001#6 d j s

/-- a = 1, c = 111010 (rule R93): out = -1 (0xFFFF) (independent of M). -/
def execCompA1C111010 (d : Dest) (j : Jump) (s : State) : Host.Outcome State Fault Refusal :=
  compute true 0b111010#6 d j s

/-- a = 1, c = 111011 (rule R109): out = 0 (independent of M). -/
def execCompA1C111011 (d : Dest) (j : Jump) (s : State) : Host.Outcome State Fault Refusal :=
  compute true 0b111011#6 d j s

/-- a = 1, c = 111100 (rule R109): out = -1 (0xFFFF) (independent of M). -/
def execCompA1C111100 (d : Dest) (j : Jump) (s : State) : Host.Outcome State Fault Refusal :=
  compute true 0b111100#6 d j s

/-- a = 1, c = 111101 (rule R109): out = 0 (independent of M). -/
def execCompA1C111101 (d : Dest) (j : Jump) (s : State) : Host.Outcome State Fault Refusal :=
  compute true 0b111101#6 d j s

/-- a = 1, c = 111110 (rule R109): out = -2 (0xFFFE) (independent of M). -/
def execCompA1C111110 (d : Dest) (j : Jump) (s : State) : Host.Outcome State Fault Refusal :=
  compute true 0b111110#6 d j s

/-- a = 1, c = 111111 (rule R92): out = 1 (independent of M). -/
def execCompA1C111111 (d : Dest) (j : Jump) (s : State) : Host.Outcome State Fault Refusal :=
  compute true 0b111111#6 d j s

end Sys2Proof.Machine
end

