-- ==== Sys2Proof/Machine/Dispatch.lean ====
section
/-! DEFINITION. The dispatch: one arm per instruction, in the order of spec/opcode_table.json. -/

namespace Sys2Proof.Machine

def exec (i : Instr) (s : State) : Host.Outcome State Fault Refusal :=
  match i with
  | .atValue v => Sys2Proof.Machine.execAtValue v s
  | .compDAndA d j => Sys2Proof.Machine.execCompDAndA d j s
  | .compA0C000001 d j => Sys2Proof.Machine.execCompA0C000001 d j s
  | .compDPlusA d j => Sys2Proof.Machine.execCompDPlusA d j s
  | .compA0C000011 d j => Sys2Proof.Machine.execCompA0C000011 d j s
  | .compA0C000100 d j => Sys2Proof.Machine.execCompA0C000100 d j s
  | .compA0C000101 d j => Sys2Proof.Machine.execCompA0C000101 d j s
  | .compA0C000110 d j => Sys2Proof.Machine.execCompA0C000110 d j s
  | .compAMinusD d j => Sys2Proof.Machine.execCompAMinusD d j s
  | .compA0C001000 d j => Sys2Proof.Machine.execCompA0C001000 d j s
  | .compA0C001001 d j => Sys2Proof.Machine.execCompA0C001001 d j s
  | .compA0C001010 d j => Sys2Proof.Machine.execCompA0C001010 d j s
  | .compA0C001011 d j => Sys2Proof.Machine.execCompA0C001011 d j s
  | .compD d j => Sys2Proof.Machine.execCompD d j s
  | .compNotD d j => Sys2Proof.Machine.execCompNotD d j s
  | .compDMinus1 d j => Sys2Proof.Machine.execCompDMinus1 d j s
  | .compNegD d j => Sys2Proof.Machine.execCompNegD d j s
  | .compA0C010000 d j => Sys2Proof.Machine.execCompA0C010000 d j s
  | .compA0C010001 d j => Sys2Proof.Machine.execCompA0C010001 d j s
  | .compA0C010010 d j => Sys2Proof.Machine.execCompA0C010010 d j s
  | .compDMinusA d j => Sys2Proof.Machine.execCompDMinusA d j s
  | .compA0C010100 d j => Sys2Proof.Machine.execCompA0C010100 d j s
  | .compDOrA d j => Sys2Proof.Machine.execCompDOrA d j s
  | .compA0C010110 d j => Sys2Proof.Machine.execCompA0C010110 d j s
  | .compA0C010111 d j => Sys2Proof.Machine.execCompA0C010111 d j s
  | .compA0C011000 d j => Sys2Proof.Machine.execCompA0C011000 d j s
  | .compA0C011001 d j => Sys2Proof.Machine.execCompA0C011001 d j s
  | .compA0C011010 d j => Sys2Proof.Machine.execCompA0C011010 d j s
  | .compA0C011011 d j => Sys2Proof.Machine.execCompA0C011011 d j s
  | .compA0C011100 d j => Sys2Proof.Machine.execCompA0C011100 d j s
  | .compA0C011101 d j => Sys2Proof.Machine.execCompA0C011101 d j s
  | .compA0C011110 d j => Sys2Proof.Machine.execCompA0C011110 d j s
  | .compDPlus1 d j => Sys2Proof.Machine.execCompDPlus1 d j s
  | .compA0C100000 d j => Sys2Proof.Machine.execCompA0C100000 d j s
  | .compA0C100001 d j => Sys2Proof.Machine.execCompA0C100001 d j s
  | .compA0C100010 d j => Sys2Proof.Machine.execCompA0C100010 d j s
  | .compA0C100011 d j => Sys2Proof.Machine.execCompA0C100011 d j s
  | .compA0C100100 d j => Sys2Proof.Machine.execCompA0C100100 d j s
  | .compA0C100101 d j => Sys2Proof.Machine.execCompA0C100101 d j s
  | .compA0C100110 d j => Sys2Proof.Machine.execCompA0C100110 d j s
  | .compA0C100111 d j => Sys2Proof.Machine.execCompA0C100111 d j s
  | .compA0C101000 d j => Sys2Proof.Machine.execCompA0C101000 d j s
  | .compA0C101001 d j => Sys2Proof.Machine.execCompA0C101001 d j s
  | .comp0 d j => Sys2Proof.Machine.execComp0 d j s
  | .compA0C101011 d j => Sys2Proof.Machine.execCompA0C101011 d j s
  | .compA0C101100 d j => Sys2Proof.Machine.execCompA0C101100 d j s
  | .compA0C101101 d j => Sys2Proof.Machine.execCompA0C101101 d j s
  | .compA0C101110 d j => Sys2Proof.Machine.execCompA0C101110 d j s
  | .compA0C101111 d j => Sys2Proof.Machine.execCompA0C101111 d j s
  | .compA d j => Sys2Proof.Machine.execCompA d j s
  | .compNotA d j => Sys2Proof.Machine.execCompNotA d j s
  | .compAMinus1 d j => Sys2Proof.Machine.execCompAMinus1 d j s
  | .compNegA d j => Sys2Proof.Machine.execCompNegA d j s
  | .compA0C110100 d j => Sys2Proof.Machine.execCompA0C110100 d j s
  | .compA0C110101 d j => Sys2Proof.Machine.execCompA0C110101 d j s
  | .compA0C110110 d j => Sys2Proof.Machine.execCompA0C110110 d j s
  | .compAPlus1 d j => Sys2Proof.Machine.execCompAPlus1 d j s
  | .compA0C111000 d j => Sys2Proof.Machine.execCompA0C111000 d j s
  | .compA0C111001 d j => Sys2Proof.Machine.execCompA0C111001 d j s
  | .compNeg1 d j => Sys2Proof.Machine.execCompNeg1 d j s
  | .compA0C111011 d j => Sys2Proof.Machine.execCompA0C111011 d j s
  | .compA0C111100 d j => Sys2Proof.Machine.execCompA0C111100 d j s
  | .compA0C111101 d j => Sys2Proof.Machine.execCompA0C111101 d j s
  | .compA0C111110 d j => Sys2Proof.Machine.execCompA0C111110 d j s
  | .comp1 d j => Sys2Proof.Machine.execComp1 d j s
  | .compDAndM d j => Sys2Proof.Machine.execCompDAndM d j s
  | .compA1C000001 d j => Sys2Proof.Machine.execCompA1C000001 d j s
  | .compDPlusM d j => Sys2Proof.Machine.execCompDPlusM d j s
  | .compA1C000011 d j => Sys2Proof.Machine.execCompA1C000011 d j s
  | .compA1C000100 d j => Sys2Proof.Machine.execCompA1C000100 d j s
  | .compA1C000101 d j => Sys2Proof.Machine.execCompA1C000101 d j s
  | .compA1C000110 d j => Sys2Proof.Machine.execCompA1C000110 d j s
  | .compMMinusD d j => Sys2Proof.Machine.execCompMMinusD d j s
  | .compA1C001000 d j => Sys2Proof.Machine.execCompA1C001000 d j s
  | .compA1C001001 d j => Sys2Proof.Machine.execCompA1C001001 d j s
  | .compA1C001010 d j => Sys2Proof.Machine.execCompA1C001010 d j s
  | .compA1C001011 d j => Sys2Proof.Machine.execCompA1C001011 d j s
  | .compA1C001100 d j => Sys2Proof.Machine.execCompA1C001100 d j s
  | .compA1C001101 d j => Sys2Proof.Machine.execCompA1C001101 d j s
  | .compA1C001110 d j => Sys2Proof.Machine.execCompA1C001110 d j s
  | .compA1C001111 d j => Sys2Proof.Machine.execCompA1C001111 d j s
  | .compA1C010000 d j => Sys2Proof.Machine.execCompA1C010000 d j s
  | .compA1C010001 d j => Sys2Proof.Machine.execCompA1C010001 d j s
  | .compA1C010010 d j => Sys2Proof.Machine.execCompA1C010010 d j s
  | .compDMinusM d j => Sys2Proof.Machine.execCompDMinusM d j s
  | .compA1C010100 d j => Sys2Proof.Machine.execCompA1C010100 d j s
  | .compDOrM d j => Sys2Proof.Machine.execCompDOrM d j s
  | .compA1C010110 d j => Sys2Proof.Machine.execCompA1C010110 d j s
  | .compA1C010111 d j => Sys2Proof.Machine.execCompA1C010111 d j s
  | .compA1C011000 d j => Sys2Proof.Machine.execCompA1C011000 d j s
  | .compA1C011001 d j => Sys2Proof.Machine.execCompA1C011001 d j s
  | .compA1C011010 d j => Sys2Proof.Machine.execCompA1C011010 d j s
  | .compA1C011011 d j => Sys2Proof.Machine.execCompA1C011011 d j s
  | .compA1C011100 d j => Sys2Proof.Machine.execCompA1C011100 d j s
  | .compA1C011101 d j => Sys2Proof.Machine.execCompA1C011101 d j s
  | .compA1C011110 d j => Sys2Proof.Machine.execCompA1C011110 d j s
  | .compA1C011111 d j => Sys2Proof.Machine.execCompA1C011111 d j s
  | .compA1C100000 d j => Sys2Proof.Machine.execCompA1C100000 d j s
  | .compA1C100001 d j => Sys2Proof.Machine.execCompA1C100001 d j s
  | .compA1C100010 d j => Sys2Proof.Machine.execCompA1C100010 d j s
  | .compA1C100011 d j => Sys2Proof.Machine.execCompA1C100011 d j s
  | .compA1C100100 d j => Sys2Proof.Machine.execCompA1C100100 d j s
  | .compA1C100101 d j => Sys2Proof.Machine.execCompA1C100101 d j s
  | .compA1C100110 d j => Sys2Proof.Machine.execCompA1C100110 d j s
  | .compA1C100111 d j => Sys2Proof.Machine.execCompA1C100111 d j s
  | .compA1C101000 d j => Sys2Proof.Machine.execCompA1C101000 d j s
  | .compA1C101001 d j => Sys2Proof.Machine.execCompA1C101001 d j s
  | .compA1C101010 d j => Sys2Proof.Machine.execCompA1C101010 d j s
  | .compA1C101011 d j => Sys2Proof.Machine.execCompA1C101011 d j s
  | .compA1C101100 d j => Sys2Proof.Machine.execCompA1C101100 d j s
  | .compA1C101101 d j => Sys2Proof.Machine.execCompA1C101101 d j s
  | .compA1C101110 d j => Sys2Proof.Machine.execCompA1C101110 d j s
  | .compA1C101111 d j => Sys2Proof.Machine.execCompA1C101111 d j s
  | .compM d j => Sys2Proof.Machine.execCompM d j s
  | .compNotM d j => Sys2Proof.Machine.execCompNotM d j s
  | .compMMinus1 d j => Sys2Proof.Machine.execCompMMinus1 d j s
  | .compNegM d j => Sys2Proof.Machine.execCompNegM d j s
  | .compA1C110100 d j => Sys2Proof.Machine.execCompA1C110100 d j s
  | .compA1C110101 d j => Sys2Proof.Machine.execCompA1C110101 d j s
  | .compA1C110110 d j => Sys2Proof.Machine.execCompA1C110110 d j s
  | .compMPlus1 d j => Sys2Proof.Machine.execCompMPlus1 d j s
  | .compA1C111000 d j => Sys2Proof.Machine.execCompA1C111000 d j s
  | .compA1C111001 d j => Sys2Proof.Machine.execCompA1C111001 d j s
  | .compA1C111010 d j => Sys2Proof.Machine.execCompA1C111010 d j s
  | .compA1C111011 d j => Sys2Proof.Machine.execCompA1C111011 d j s
  | .compA1C111100 d j => Sys2Proof.Machine.execCompA1C111100 d j s
  | .compA1C111101 d j => Sys2Proof.Machine.execCompA1C111101 d j s
  | .compA1C111110 d j => Sys2Proof.Machine.execCompA1C111110 d j s
  | .compA1C111111 d j => Sys2Proof.Machine.execCompA1C111111 d j s

end Sys2Proof.Machine
end

