-- ==== Sys2Proof/Machine/Step.lean ====
section
/-! DEFINITION. One step of the machine: one clock cycle, one instruction (spec/70_reset_and_hazards.md rule R260), with the
fetch of spec/20_memory.md rule R48. -/

namespace Sys2Proof.Machine

/-- Fetch the word at PC, decode it and execute it; a fetch from an UNLOADED address is `ModelFault(FetchUnloaded(pc))`
(rule R48). -/
def step (s : State) : Host.Outcome State Fault Refusal :=
  match fetch s with
  | none => .fault (.fetchUnloaded s.regs.pc)
  | some w => exec (decode w) s

/-- The state with one instruction word loaded where the next step fetches: at PC, in the instruction memory. A number that is
no 16-bit word is refused and nothing is loaded (rule R206). Assumption log entry 4. -/
def State.withFetchWord (s : State) (nbits w : Nat) : State :=
  if nbits ≤ 16 ∧ w < 2 ^ nbits then { s with rom := s.rom.load s.regs.pc (BitVec.ofNat 16 w) } else s

end Sys2Proof.Machine
end

