-- ==== Sys2Proof/Machine/Harness.lean ====
section
/-! DEFINITION. The harness around the machine: a launch from a program image, a count of cycles with their ports, and the run
to `haltPc` (spec/92_eei_decisions.md decisions D6, D8, D10, D11 and the host table). -/

namespace Sys2Proof.Machine

/-- The words of an image at consecutive addresses from `p` on. -/
def imageFrom : Nat → List Word → Memory
  | _, [] => []
  | p, w :: ws => (p, w) :: imageFrom (p + 1) ws

/-- `romImage ws`: `rom(i) = ws[i]` and every other address UNLOADED; an image longer than the address space is refused
(decisions D8 and D9). -/
def romImage? (ws : List Word) : Option Memory :=
  if ws.length ≤ 2 ^ 15 then some (imageFrom 0 ws) else none

/-- A cold launch (decision D10): the state after construct, with the memories, the device addresses and the
reset list the host supplies (rule R8, host table H1 and H2). -/
def launchCold (rom ram : Memory) (devices : List Addr) (resets : List Bool) : State :=
  { State.reset with rom := rom, ram := ram, devices := devices, resetInputs := resets }

/-- n cycles from s: the ports of each, oldest first, and the state after them; none if a cycle has no next state (rule
R205). -/
def cyclesFrom : Nat → State → Option (List Outputs × State)
  | 0, s => some ([], s)
  | n + 1, s =>
    match step s with
    | .next t =>
      match t.outputs, cyclesFrom n t with
      | some o, some (os, u) => some (o :: os, u)
      | _, _ => none
    | .fault _ => none
    | .refused _ => none

/-- How a harness run ends (decision D11); only `halted` is a successful end. -/
inductive RunEnd where
  | halted (s : State)
  | faulted (f : Fault)
  | outOfFuel (s : State)
  /-- An instruction without a meaning; no instruction of this model has none. -/
  | refused (r : Refusal)
  deriving DecidableEq, Repr

/-- `run(fuel, haltPc)`: before each cycle the end is checked in the order of decision D11, and the word at `haltPc` is not
executed. -/
def run (haltPc : Addr) : Nat → State → RunEnd
  | 0, s => if s.regs.pc = haltPc then .halted s else .outOfFuel s
  | fuel + 1, s =>
    if s.regs.pc = haltPc then .halted s
    else
      match step s with
      | .next t => run haltPc fuel t
      | .fault f => .faulted f
      | .refused r => .refused r

end Sys2Proof.Machine
end

