-- ==== Sys2Proof/Safety.lean ====
section
/-! DEFINITION. The terms claims use: the invariant of the state, the conditions under which a cycle completes, and the next
states the instruction rules of the spec give, written from those rules. -/

namespace Sys2Proof.Safety

open Sys2Proof.Machine

/-- Both memories are in their canonical form and no device address is listed twice. The form of the lists is the model's own
(assumption log entries 1, 3 and 10); rule R40 fixes the addresses. -/
abbrev Inv (s : State) : Prop := s.ram.wf = true ∧ s.rom.loaded = true ∧ s.devices.Nodup

/-- A cold start: the state of the core after construct (rule R253, decision D10). -/
abbrev ColdStart (s : State) : Prop := s.regs = { a := 0x0000#16, d := 0x0000#16, pc := 0x0000#15 }

/-- A warm start: PC = 0 after a cycle with reset = 1, A and D whatever they are (rule R254, decision D10). -/
abbrev WarmStart (s : State) : Prop := s.regs.pc = 0x0000#15

/-- The cycle does not increment PC from 0x7FFF: reset or a taken jump sets PC, or PC is below the top (rule R161). -/
abbrev NoPcOverflow (s : State) (takeJump : Bool) : Prop :=
  s.resetNow = true ∨ takeJump = true ∨ s.regs.pc ≠ 0x7FFF#15

/-- When each jump code jumps, as a test of the signed value of the result (rules R121 to R128). -/
def jumpHolds (j : Jump) (out : Word) : Bool :=
  match j with
  | .never => false
  | .jgt => decide (0 < out.toInt)
  | .jeq => decide (out.toInt = 0)
  | .jge => decide (0 ≤ out.toInt)
  | .jlt => decide (out.toInt < 0)
  | .jne => decide (out.toInt ≠ 0)
  | .jle => decide (out.toInt ≤ 0)
  | .jmp => true

/-- The state after the A-instruction `@v` where PC does not overflow (rule R170). -/
def afterAddress (s : State) (v : Addr) : State :=
  { regs :=
      { a := 0b0#1 ++ v
        d := s.regs.d
        pc := if s.resetNow then 0x0000#15 else s.regs.pc + 1 }
    ram := s.ram
    rom := s.rom
    devices := s.devices
    resetInputs := s.resetInputs.tail
    cycle := s.cycle + 1
    outputs := some
      { outM := Config.outMDraw s.cycle
        writeM := false
        addressM := s.regs.a.setWidth 15
        pc := s.regs.pc } }

/-- The state after a C-instruction whose ALU result is `out` where PC does not overflow (rule R180). A write to a device
address reaches the ports alone (decision D7). -/
def afterCompute (s : State) (out : Word) (d : Dest) (j : Jump) : State :=
  { regs :=
      { a := if d.toA then out else s.regs.a
        d := if d.toD then out else s.regs.d
        pc :=
          if s.resetNow then 0x0000#15
          else if jumpHolds j out then s.regs.a.setWidth 15
          else s.regs.pc + 1 }
    ram :=
      if d.toM && !s.isDevice (s.regs.a.setWidth 15) then s.ram.write (s.regs.a.setWidth 15) out else s.ram
    rom := s.rom
    devices := s.devices
    resetInputs := s.resetInputs.tail
    cycle := s.cycle + 1
    outputs := some
      { outM := if d.toM then out else Config.outMDraw s.cycle
        writeM := d.toM
        addressM := s.regs.a.setWidth 15
        pc := s.regs.pc } }

/-- The instructions `i d j` are the C-instructions with comp bits a and c, and each computes `f x y` of x = D and y = A
(a = 0) or the data word at A[14:0] (a = 1): where PC does not overflow it answers exactly the state of rule R180. -/
def ComputesAs (i : Dest → Jump → Instr) (a : Bool) (c : BitVec 6) (f : Word → Word → Word) : Prop :=
  ∀ (d : Dest) (j : Jump),
    encode (i d j) = computeWord a c d j ∧
    ∀ s : State,
      NoPcOverflow s (jumpHolds j (f s.regs.d (if a then s.dataWord (s.regs.a.setWidth 15) else s.regs.a))) →
      exec (i d j) s =
        .next (afterCompute s (f s.regs.d (if a then s.dataWord (s.regs.a.setWidth 15) else s.regs.a)) d j)

/-- The ALU result of the C-instruction word w at s: x = D, y = A or the data word at A[14:0] by bit 12, control bits 11..6
(rules R64, R86 and R181). -/
def resultOf (w : Word) (s : State) : Word :=
  alu s.regs.d (if bit w 12 then s.dataWord (s.regs.a.setWidth 15) else s.regs.a) (controlField w)

/-- The word w takes its jump at s: it is a C-instruction and its jump code holds of its result (rule R129). -/
def takesJump (w : Word) (s : State) : Bool := bit w 15 && jumpHolds (jumpField w) (resultOf w s)

/-- The cycle from s to t wrote v to data memory at A[14:0] of the pre-commit A, and said so on its ports; at a device address
(decision D7) on its ports alone. -/
abbrev Wrote (s t : State) (v : Word) : Prop :=
  t.ram = (if s.isDevice (s.regs.a.setWidth 15) then s.ram else s.ram.write (s.regs.a.setWidth 15) v) ∧
  t.outputs = some { outM := v, writeM := true, addressM := s.regs.a.setWidth 15, pc := s.regs.pc }

/-- The cycle from s to t wrote nothing, and said so on its ports. -/
abbrev WroteNothing (s t : State) : Prop :=
  t.ram = s.ram ∧ t.outputs.map (fun o => (o.writeM, o.addressM, o.pc)) = some (false, s.regs.a.setWidth 15, s.regs.pc)

/-- The ports as far as the spec gives them a value: `outM` only where `writeM` is 1 (rule R30, decision D2). -/
def validPorts (o : Outputs) : Option Word × Bool × Addr × Addr :=
  (if o.writeM then some o.outM else none, o.writeM, o.addressM, o.pc)

/-- The word the latest of the given cycles wrote to p, or `w0` if none did (rule R49). -/
def latestWrite (p : Addr) (w0 : Word) : List Outputs → Word
  | [] => w0
  | o :: os => latestWrite p (if o.writeM && o.addressM == p then o.outM else w0) os

end Sys2Proof.Safety
end

