-- ==== Sys2Proof/Certificates/Slice0/Obligations.lean ====
section
/-! DEFINITION. The statements about the model for the provers: one definition per obligation, listed in OBLIGATIONS.json. -/

open Sys2Proof Sys2Proof.Machine Sys2Proof.Safety

/-- Rests on 30_encoding.md sections 2, 3 and 6. For every instruction i, every row of the opcode table with every
literal, dest field and jump field, decode (encode i) = i: no field of an encoding is dropped. -/
def Obligations.DecodeOfEncodeIsIdentity : Prop :=
  ∀ i : Instr, decode (encode i) = i

/-- Rests on 30_encoding.md sections 2 and 4; 92_eei_decisions.md D14. For every 16-bit word w, encode (decode w) is w if
bit 15 is 0, and w with bits 14 and 13 set if bit 15 is 1: an A-instruction word has one meaning and no other word,
and a C-instruction loses only its two ignored bits. -/
def Obligations.EncodeOfDecodeSetsOnlyIgnoredBits : Prop :=
  ∀ w : Word, encode (decode w) = if bit w 15 then w ||| 0x6000#16 else w

/-- Formalises R66. Two C-instruction words that agree outside bits 14..13 give the same decoder outputs and the same
instruction, and execute alike from every state; the word the encoder writes for a C-instruction has bits 15..13 =
111. -/
def Obligations.IgnoredBitsTakeNoPart : Prop :=
  ∀ w w' : Word, bit w 15 = true → w ||| 0x6000#16 = w' ||| 0x6000#16 →
    signals w = signals w' ∧ decode w = decode w' ∧ (∀ s : State, exec (decode w) s = exec (decode w') s) ∧
    encode (decode w) = w ||| 0xE000#16

/-- Formalises R61. For every word w the decoder output isCompute is bit 15; where bit 15 is 0 the word decodes to the
A-instruction with the low 15 bits as its literal, and where bit 15 is 1 it decodes to no A-instruction. -/
def Obligations.ClassIsBit15 : Prop :=
  ∀ w : Word, (signals w).isCompute = bit w 15 ∧
    (bit w 15 = false → decode w = .atValue (w.extractLsb' 0 15)) ∧
    (bit w 15 = true → ∀ v : Addr, decode w ≠ .atValue v)

/-- Formalises R72. Word 0x0064 is the A-instruction with literal 100 and loads A only; 0xE308 is M=D: a = 0, control bits
001100, dest M, no jump; 0x8308 decodes identically to 0xE308. -/
def Obligations.WorkedDecodeExamples : Prop :=
  decode 0x0064#16 = .atValue 100#15 ∧
  ((signals 0x0064#16).isCompute = false ∧ (signals 0x0064#16).loadA = true ∧ (signals 0x0064#16).loadD = false ∧
    (signals 0x0064#16).loadM = false) ∧
  decode 0xE308#16 = .compD { toA := false, toD := false, toM := true } .never ∧
  signals 0xE308#16 =
    { isCompute := true, a := false, control := controlOf 0b001100#6, loadA := false, loadD := false, loadM := true,
      jumpCode := .never } ∧
  decode 0x8308#16 = decode 0xE308#16 ∧ signals 0x8308#16 = signals 0xE308#16

/-- Rests on 46_cpu_step.md section 1; 92_eei_decisions.md D9. A number becomes a word exactly when it is below 65536, and
then the word is that number; port values become inputs exactly when instruction and inM are below 65536 and reset is
below 2, and then with those values. -/
def Obligations.OutOfRangeNumbersAreRefused : Prop :=
  (∀ n : Nat, (wordOfNat? n).map BitVec.toNat = if n < 65536 then some n else none) ∧
  ∀ r : RawInputs,
    (inputsOfRaw? r).map (fun i => (i.instruction.toNat, i.inM.toNat, i.reset.toNat)) =
      if r.instruction < 65536 ∧ r.inM < 65536 ∧ r.reset < 2 then some (r.instruction, r.inM, r.reset) else none

/-- Formalises R83, R84, R85. For every ALU output: zr is 1 exactly for 0x0000; ng is bit 15, which is 1 exactly when the
signed value is negative; zr and ng are never both 1; the pairs (0,0), (1,0) and (0,1) are out > 0, out = 0 and out <
0 signed. -/
def Obligations.FlagsOfTheResult : Prop :=
  ∀ out : Word, (zr out = true ↔ out = 0x0000#16) ∧ ng out = out.getLsbD 15 ∧ (ng out = true ↔ out.toInt < 0) ∧
    ¬(zr out = true ∧ ng out = true) ∧
    (zr out = false ∧ ng out = false ↔ 0 < out.toInt) ∧
    (zr out = true ∧ ng out = false ↔ out.toInt = 0) ∧
    (zr out = false ∧ ng out = true ↔ out.toInt < 0)

/-- Rests on 40_alu.md section 1. For every control pattern with f = 1 there are p, q in -1, 0, 1 and a constant k with
out = p*x + q*y + k modulo 2^16 for all x and y; with f = 0, bit i of out depends only on bit i of x and bit i of y. -/
def Obligations.AluIsLinearOrBitwise : Prop :=
  ∀ c : Control,
    (c.f = true → ∃ p q k : Word, (p = 0xFFFF#16 ∨ p = 0x0000#16 ∨ p = 0x0001#16) ∧
      (q = 0xFFFF#16 ∨ q = 0x0000#16 ∨ q = 0x0001#16) ∧ ∀ x y : Word, alu x y c = p * x + q * y + k) ∧
    (c.f = false → ∀ (i : Nat) (x y x' y' : Word), x.getLsbD i = x'.getLsbD i → y.getLsbD i = y'.getLsbD i →
      (alu x y c).getLsbD i = (alu x' y' c).getLsbD i)

/-- Rests on 40_alu.md section 3; 45_compute_instruction.md. Rules R91 to R93: c = 101010 computes 0x0000, c = 111111
computes 0x0001, c = 111010 computes 0xFFFF, whatever D, A and memory hold. Each with every dest field and jump code,
at both values of the a bit, from every state in which PC does not overflow, exec answers exactly the next state of
rule R180: the result in each destination the dest field names, the jump on the signed result, every other register,
data word and instruction word unchanged. M is the word the data memory presents at A[14:0]. The case of a write to an
address of the parameter devices, which decision D7 leaves to the platform, is the model's choice and no rule of the
spec: the write reaches the ports alone and storage is unchanged (log entry 10, DESIGN CHOICE). The next state also
fixes the model's own fields, which no rule of the spec gives: the cycle number grows by one and picks the free value
outM carries where writeM = 0 (log entry 6, DESIGN CHOICE), one reset input is consumed (log entry 7, DEDUCED), the
ports are recorded (log entry 8, DESIGN CHOICE). -/
def Obligations.ConstantsZeroOneMinusOne : Prop :=
  ComputesAs .comp0 false 0b101010#6 (fun _ _ => 0x0000#16) ∧
  ComputesAs .compA1C101010 true 0b101010#6 (fun _ _ => 0x0000#16) ∧
  ComputesAs .comp1 false 0b111111#6 (fun _ _ => 0x0001#16) ∧
  ComputesAs .compA1C111111 true 0b111111#6 (fun _ _ => 0x0001#16) ∧
  ComputesAs .compNeg1 false 0b111010#6 (fun _ _ => 0xFFFF#16) ∧
  ComputesAs .compA1C111010 true 0b111010#6 (fun _ _ => 0xFFFF#16)

/-- Rests on 40_alu.md section 3; 45_compute_instruction.md. Rules R94 and R95: c = 001100 computes D (at a = 1 too); c =
110000 computes A at a = 0 and the memory word at a = 1. Each with every dest field and jump code, at both values of
the a bit, from every state in which PC does not overflow, exec answers exactly the next state of rule R180: the
result in each destination the dest field names, the jump on the signed result, every other register, data word and
instruction word unchanged. M is the word the data memory presents at A[14:0]. The case of a write to an address of
the parameter devices, which decision D7 leaves to the platform, is the model's choice and no rule of the spec: the
write reaches the ports alone and storage is unchanged (log entry 10, DESIGN CHOICE). The next state also fixes the
model's own fields, which no rule of the spec gives: the cycle number grows by one and picks the free value outM
carries where writeM = 0 (log entry 6, DESIGN CHOICE), one reset input is consumed (log entry 7, DEDUCED), the ports
are recorded (log entry 8, DESIGN CHOICE). -/
def Obligations.PassDPassAPassM : Prop :=
  ComputesAs .compD false 0b001100#6 (fun x _ => x) ∧
  ComputesAs .compA1C001100 true 0b001100#6 (fun x _ => x) ∧
  ComputesAs .compA false 0b110000#6 (fun _ y => y) ∧
  ComputesAs .compM true 0b110000#6 (fun _ y => y)

/-- Rests on 40_alu.md section 3; 45_compute_instruction.md. Rules R96 and R97: c = 001101 computes the bitwise NOT of D
(at a = 1 too); c = 110001 computes the bitwise NOT of A at a = 0 and of the memory word at a = 1. Each with every
dest field and jump code, at both values of the a bit, from every state in which PC does not overflow, exec answers
exactly the next state of rule R180: the result in each destination the dest field names, the jump on the signed
result, every other register, data word and instruction word unchanged. M is the word the data memory presents at
A[14:0]. The case of a write to an address of the parameter devices, which decision D7 leaves to the platform, is the
model's choice and no rule of the spec: the write reaches the ports alone and storage is unchanged (log entry 10,
DESIGN CHOICE). The next state also fixes the model's own fields, which no rule of the spec gives: the cycle number
grows by one and picks the free value outM carries where writeM = 0 (log entry 6, DESIGN CHOICE), one reset input is
consumed (log entry 7, DEDUCED), the ports are recorded (log entry 8, DESIGN CHOICE). -/
def Obligations.NotDNotANotM : Prop :=
  ComputesAs .compNotD false 0b001101#6 (fun x _ => ~~~x) ∧
  ComputesAs .compA1C001101 true 0b001101#6 (fun x _ => ~~~x) ∧
  ComputesAs .compNotA false 0b110001#6 (fun _ y => ~~~y) ∧
  ComputesAs .compNotM true 0b110001#6 (fun _ y => ~~~y)

/-- Rests on 40_alu.md section 3; 45_compute_instruction.md. Rules R98 and R99: c = 001111 computes -D (at a = 1 too); c =
110011 computes -A at a = 0 and the negated memory word at a = 1, modulo 2^16. Each with every dest field and jump
code, at both values of the a bit, from every state in which PC does not overflow, exec answers exactly the next state
of rule R180: the result in each destination the dest field names, the jump on the signed result, every other
register, data word and instruction word unchanged. M is the word the data memory presents at A[14:0]. The case of a
write to an address of the parameter devices, which decision D7 leaves to the platform, is the model's choice and no
rule of the spec: the write reaches the ports alone and storage is unchanged (log entry 10, DESIGN CHOICE). The next
state also fixes the model's own fields, which no rule of the spec gives: the cycle number grows by one and picks the
free value outM carries where writeM = 0 (log entry 6, DESIGN CHOICE), one reset input is consumed (log entry 7,
DEDUCED), the ports are recorded (log entry 8, DESIGN CHOICE). -/
def Obligations.NegateDNegateANegateM : Prop :=
  ComputesAs .compNegD false 0b001111#6 (fun x _ => -x) ∧
  ComputesAs .compA1C001111 true 0b001111#6 (fun x _ => -x) ∧
  ComputesAs .compNegA false 0b110011#6 (fun _ y => -y) ∧
  ComputesAs .compNegM true 0b110011#6 (fun _ y => -y)

/-- Rests on 40_alu.md section 3; 45_compute_instruction.md. Rules R100 and R101: c = 011111 computes D + 1 (at a = 1
too); c = 110111 computes A + 1 at a = 0 and the memory word plus 1 at a = 1, modulo 2^16. Each with every dest field
and jump code, at both values of the a bit, from every state in which PC does not overflow, exec answers exactly the
next state of rule R180: the result in each destination the dest field names, the jump on the signed result, every
other register, data word and instruction word unchanged. M is the word the data memory presents at A[14:0]. The case
of a write to an address of the parameter devices, which decision D7 leaves to the platform, is the model's choice and
no rule of the spec: the write reaches the ports alone and storage is unchanged (log entry 10, DESIGN CHOICE). The
next state also fixes the model's own fields, which no rule of the spec gives: the cycle number grows by one and picks
the free value outM carries where writeM = 0 (log entry 6, DESIGN CHOICE), one reset input is consumed (log entry 7,
DEDUCED), the ports are recorded (log entry 8, DESIGN CHOICE). -/
def Obligations.IncrementDIncrementAIncrementM : Prop :=
  ComputesAs .compDPlus1 false 0b011111#6 (fun x _ => x + 1#16) ∧
  ComputesAs .compA1C011111 true 0b011111#6 (fun x _ => x + 1#16) ∧
  ComputesAs .compAPlus1 false 0b110111#6 (fun _ y => y + 1#16) ∧
  ComputesAs .compMPlus1 true 0b110111#6 (fun _ y => y + 1#16)

/-- Rests on 40_alu.md section 3; 45_compute_instruction.md. Rules R102 and R103: c = 001110 computes D - 1, not D + 1 (at
a = 1 too); c = 110010 computes A - 1 at a = 0 and the memory word minus 1 at a = 1, modulo 2^16. Each with every dest
field and jump code, at both values of the a bit, from every state in which PC does not overflow, exec answers exactly
the next state of rule R180: the result in each destination the dest field names, the jump on the signed result, every
other register, data word and instruction word unchanged. M is the word the data memory presents at A[14:0]. The case
of a write to an address of the parameter devices, which decision D7 leaves to the platform, is the model's choice and
no rule of the spec: the write reaches the ports alone and storage is unchanged (log entry 10, DESIGN CHOICE). The
next state also fixes the model's own fields, which no rule of the spec gives: the cycle number grows by one and picks
the free value outM carries where writeM = 0 (log entry 6, DESIGN CHOICE), one reset input is consumed (log entry 7,
DEDUCED), the ports are recorded (log entry 8, DESIGN CHOICE). -/
def Obligations.DecrementDDecrementADecrementM : Prop :=
  ComputesAs .compDMinus1 false 0b001110#6 (fun x _ => x - 1#16) ∧
  ComputesAs .compA1C001110 true 0b001110#6 (fun x _ => x - 1#16) ∧
  ComputesAs .compAMinus1 false 0b110010#6 (fun _ y => y - 1#16) ∧
  ComputesAs .compMMinus1 true 0b110010#6 (fun _ y => y - 1#16)

/-- Rests on 40_alu.md section 3; 45_compute_instruction.md. Rule R104: c = 000010 computes D + A at a = 0 and D plus the
memory word at a = 1, modulo 2^16. Each with every dest field and jump code, at both values of the a bit, from every
state in which PC does not overflow, exec answers exactly the next state of rule R180: the result in each destination
the dest field names, the jump on the signed result, every other register, data word and instruction word unchanged. M
is the word the data memory presents at A[14:0]. The case of a write to an address of the parameter devices, which
decision D7 leaves to the platform, is the model's choice and no rule of the spec: the write reaches the ports alone
and storage is unchanged (log entry 10, DESIGN CHOICE). The next state also fixes the model's own fields, which no
rule of the spec gives: the cycle number grows by one and picks the free value outM carries where writeM = 0 (log
entry 6, DESIGN CHOICE), one reset input is consumed (log entry 7, DEDUCED), the ports are recorded (log entry 8,
DESIGN CHOICE). -/
def Obligations.AddDToAOrM : Prop :=
  ComputesAs .compDPlusA false 0b000010#6 (fun x y => x + y) ∧
  ComputesAs .compDPlusM true 0b000010#6 (fun x y => x + y)

/-- Rests on 40_alu.md section 3; 45_compute_instruction.md. Rule R105: c = 010011 computes D - A at a = 0 and D minus the
memory word at a = 1, modulo 2^16. Each with every dest field and jump code, at both values of the a bit, from every
state in which PC does not overflow, exec answers exactly the next state of rule R180: the result in each destination
the dest field names, the jump on the signed result, every other register, data word and instruction word unchanged. M
is the word the data memory presents at A[14:0]. The case of a write to an address of the parameter devices, which
decision D7 leaves to the platform, is the model's choice and no rule of the spec: the write reaches the ports alone
and storage is unchanged (log entry 10, DESIGN CHOICE). The next state also fixes the model's own fields, which no
rule of the spec gives: the cycle number grows by one and picks the free value outM carries where writeM = 0 (log
entry 6, DESIGN CHOICE), one reset input is consumed (log entry 7, DEDUCED), the ports are recorded (log entry 8,
DESIGN CHOICE). -/
def Obligations.SubtractAOrMFromD : Prop :=
  ComputesAs .compDMinusA false 0b010011#6 (fun x y => x - y) ∧
  ComputesAs .compDMinusM true 0b010011#6 (fun x y => x - y)

/-- Rests on 40_alu.md section 3; 45_compute_instruction.md. Rule R106: c = 000111 computes A - D at a = 0 and the memory
word minus D at a = 1, modulo 2^16. Each with every dest field and jump code, at both values of the a bit, from every
state in which PC does not overflow, exec answers exactly the next state of rule R180: the result in each destination
the dest field names, the jump on the signed result, every other register, data word and instruction word unchanged. M
is the word the data memory presents at A[14:0]. The case of a write to an address of the parameter devices, which
decision D7 leaves to the platform, is the model's choice and no rule of the spec: the write reaches the ports alone
and storage is unchanged (log entry 10, DESIGN CHOICE). The next state also fixes the model's own fields, which no
rule of the spec gives: the cycle number grows by one and picks the free value outM carries where writeM = 0 (log
entry 6, DESIGN CHOICE), one reset input is consumed (log entry 7, DEDUCED), the ports are recorded (log entry 8,
DESIGN CHOICE). -/
def Obligations.SubtractDFromAOrM : Prop :=
  ComputesAs .compAMinusD false 0b000111#6 (fun x y => y - x) ∧
  ComputesAs .compMMinusD true 0b000111#6 (fun x y => y - x)

/-- Rests on 40_alu.md section 3; 45_compute_instruction.md. Rule R107: c = 000000 computes D AND A at a = 0 and D AND the
memory word at a = 1, bit by bit. Each with every dest field and jump code, at both values of the a bit, from every
state in which PC does not overflow, exec answers exactly the next state of rule R180: the result in each destination
the dest field names, the jump on the signed result, every other register, data word and instruction word unchanged. M
is the word the data memory presents at A[14:0]. The case of a write to an address of the parameter devices, which
decision D7 leaves to the platform, is the model's choice and no rule of the spec: the write reaches the ports alone
and storage is unchanged (log entry 10, DESIGN CHOICE). The next state also fixes the model's own fields, which no
rule of the spec gives: the cycle number grows by one and picks the free value outM carries where writeM = 0 (log
entry 6, DESIGN CHOICE), one reset input is consumed (log entry 7, DEDUCED), the ports are recorded (log entry 8,
DESIGN CHOICE). -/
def Obligations.AndDWithAOrM : Prop :=
  ComputesAs .compDAndA false 0b000000#6 (fun x y => x &&& y) ∧
  ComputesAs .compDAndM true 0b000000#6 (fun x y => x &&& y)

/-- Rests on 40_alu.md section 3; 45_compute_instruction.md. Rule R108: c = 010101 computes D OR A at a = 0 and D OR the
memory word at a = 1, bit by bit. Each with every dest field and jump code, at both values of the a bit, from every
state in which PC does not overflow, exec answers exactly the next state of rule R180: the result in each destination
the dest field names, the jump on the signed result, every other register, data word and instruction word unchanged. M
is the word the data memory presents at A[14:0]. The case of a write to an address of the parameter devices, which
decision D7 leaves to the platform, is the model's choice and no rule of the spec: the write reaches the ports alone
and storage is unchanged (log entry 10, DESIGN CHOICE). The next state also fixes the model's own fields, which no
rule of the spec gives: the cycle number grows by one and picks the free value outM carries where writeM = 0 (log
entry 6, DESIGN CHOICE), one reset input is consumed (log entry 7, DEDUCED), the ports are recorded (log entry 8,
DESIGN CHOICE). -/
def Obligations.OrDWithAOrM : Prop :=
  ComputesAs .compDOrA false 0b010101#6 (fun x y => x ||| y) ∧
  ComputesAs .compDOrM true 0b010101#6 (fun x y => x ||| y)

/-- Rests on 40_alu.md section 4. The control patterns 001000, 011000, 100000, 100100, 101000, 101100, 101111, 111000,
111011, 111101 compute 0x0000, 001001, 011001, 100001, 100101, 101001, 101011, 101101, 101110, 111001, 111100 compute
0xFFFF and 111110 computes 0xFFFE, whatever D, A and memory hold. Each with every dest field and jump code, at both
values of the a bit, from every state in which PC does not overflow, exec answers exactly the next state of rule R180:
the result in each destination the dest field names, the jump on the signed result, every other register, data word
and instruction word unchanged. M is the word the data memory presents at A[14:0]. The case of a write to an address
of the parameter devices, which decision D7 leaves to the platform, is the model's choice and no rule of the spec: the
write reaches the ports alone and storage is unchanged (log entry 10, DESIGN CHOICE). The next state also fixes the
model's own fields, which no rule of the spec gives: the cycle number grows by one and picks the free value outM
carries where writeM = 0 (log entry 6, DESIGN CHOICE), one reset input is consumed (log entry 7, DEDUCED), the ports
are recorded (log entry 8, DESIGN CHOICE). -/
def Obligations.NonCanonicalConstants : Prop :=
  ComputesAs .compA0C001000 false 0b001000#6 (fun _ _ => 0x0000#16) ∧
  ComputesAs .compA1C001000 true 0b001000#6 (fun _ _ => 0x0000#16) ∧
  ComputesAs .compA0C011000 false 0b011000#6 (fun _ _ => 0x0000#16) ∧
  ComputesAs .compA1C011000 true 0b011000#6 (fun _ _ => 0x0000#16) ∧
  ComputesAs .compA0C100000 false 0b100000#6 (fun _ _ => 0x0000#16) ∧
  ComputesAs .compA1C100000 true 0b100000#6 (fun _ _ => 0x0000#16) ∧
  ComputesAs .compA0C100100 false 0b100100#6 (fun _ _ => 0x0000#16) ∧
  ComputesAs .compA1C100100 true 0b100100#6 (fun _ _ => 0x0000#16) ∧
  ComputesAs .compA0C101000 false 0b101000#6 (fun _ _ => 0x0000#16) ∧
  ComputesAs .compA1C101000 true 0b101000#6 (fun _ _ => 0x0000#16) ∧
  ComputesAs .compA0C101100 false 0b101100#6 (fun _ _ => 0x0000#16) ∧
  ComputesAs .compA1C101100 true 0b101100#6 (fun _ _ => 0x0000#16) ∧
  ComputesAs .compA0C101111 false 0b101111#6 (fun _ _ => 0x0000#16) ∧
  ComputesAs .compA1C101111 true 0b101111#6 (fun _ _ => 0x0000#16) ∧
  ComputesAs .compA0C111000 false 0b111000#6 (fun _ _ => 0x0000#16) ∧
  ComputesAs .compA1C111000 true 0b111000#6 (fun _ _ => 0x0000#16) ∧
  ComputesAs .compA0C111011 false 0b111011#6 (fun _ _ => 0x0000#16) ∧
  ComputesAs .compA1C111011 true 0b111011#6 (fun _ _ => 0x0000#16) ∧
  ComputesAs .compA0C111101 false 0b111101#6 (fun _ _ => 0x0000#16) ∧
  ComputesAs .compA1C111101 true 0b111101#6 (fun _ _ => 0x0000#16) ∧
  ComputesAs .compA0C001001 false 0b001001#6 (fun _ _ => 0xFFFF#16) ∧
  ComputesAs .compA1C001001 true 0b001001#6 (fun _ _ => 0xFFFF#16) ∧
  ComputesAs .compA0C011001 false 0b011001#6 (fun _ _ => 0xFFFF#16) ∧
  ComputesAs .compA1C011001 true 0b011001#6 (fun _ _ => 0xFFFF#16) ∧
  ComputesAs .compA0C100001 false 0b100001#6 (fun _ _ => 0xFFFF#16) ∧
  ComputesAs .compA1C100001 true 0b100001#6 (fun _ _ => 0xFFFF#16) ∧
  ComputesAs .compA0C100101 false 0b100101#6 (fun _ _ => 0xFFFF#16) ∧
  ComputesAs .compA1C100101 true 0b100101#6 (fun _ _ => 0xFFFF#16) ∧
  ComputesAs .compA0C101001 false 0b101001#6 (fun _ _ => 0xFFFF#16) ∧
  ComputesAs .compA1C101001 true 0b101001#6 (fun _ _ => 0xFFFF#16) ∧
  ComputesAs .compA0C101011 false 0b101011#6 (fun _ _ => 0xFFFF#16) ∧
  ComputesAs .compA1C101011 true 0b101011#6 (fun _ _ => 0xFFFF#16) ∧
  ComputesAs .compA0C101101 false 0b101101#6 (fun _ _ => 0xFFFF#16) ∧
  ComputesAs .compA1C101101 true 0b101101#6 (fun _ _ => 0xFFFF#16) ∧
  ComputesAs .compA0C101110 false 0b101110#6 (fun _ _ => 0xFFFF#16) ∧
  ComputesAs .compA1C101110 true 0b101110#6 (fun _ _ => 0xFFFF#16) ∧
  ComputesAs .compA0C111001 false 0b111001#6 (fun _ _ => 0xFFFF#16) ∧
  ComputesAs .compA1C111001 true 0b111001#6 (fun _ _ => 0xFFFF#16) ∧
  ComputesAs .compA0C111100 false 0b111100#6 (fun _ _ => 0xFFFF#16) ∧
  ComputesAs .compA1C111100 true 0b111100#6 (fun _ _ => 0xFFFF#16) ∧
  ComputesAs .compA0C111110 false 0b111110#6 (fun _ _ => 0xFFFE#16) ∧
  ComputesAs .compA1C111110 true 0b111110#6 (fun _ _ => 0xFFFE#16)

/-- Rests on 40_alu.md section 4. By the table of all 64 patterns: 001010 computes D, 001011 computes ~D (= -D-1), 011010
computes ~D (= -D-1), 011011 computes D, 011100 computes ~D, 011101 computes D, 011110 computes ~D-1 (= -D-2); at a =
1 the same. Each with every dest field and jump code, at both values of the a bit, from every state in which PC does
not overflow, exec answers exactly the next state of rule R180: the result in each destination the dest field names,
the jump on the signed result, every other register, data word and instruction word unchanged. M is the word the data
memory presents at A[14:0]. The case of a write to an address of the parameter devices, which decision D7 leaves to
the platform, is the model's choice and no rule of the spec: the write reaches the ports alone and storage is
unchanged (log entry 10, DESIGN CHOICE). The next state also fixes the model's own fields, which no rule of the spec
gives: the cycle number grows by one and picks the free value outM carries where writeM = 0 (log entry 6, DESIGN
CHOICE), one reset input is consumed (log entry 7, DEDUCED), the ports are recorded (log entry 8, DESIGN CHOICE). -/
def Obligations.NonCanonicalFunctionsOfD : Prop :=
  ComputesAs .compA0C001010 false 0b001010#6 (fun x _ => x) ∧
  ComputesAs .compA1C001010 true 0b001010#6 (fun x _ => x) ∧
  ComputesAs .compA0C001011 false 0b001011#6 (fun x _ => ~~~x) ∧
  ComputesAs .compA1C001011 true 0b001011#6 (fun x _ => ~~~x) ∧
  ComputesAs .compA0C011010 false 0b011010#6 (fun x _ => ~~~x) ∧
  ComputesAs .compA1C011010 true 0b011010#6 (fun x _ => ~~~x) ∧
  ComputesAs .compA0C011011 false 0b011011#6 (fun x _ => x) ∧
  ComputesAs .compA1C011011 true 0b011011#6 (fun x _ => x) ∧
  ComputesAs .compA0C011100 false 0b011100#6 (fun x _ => ~~~x) ∧
  ComputesAs .compA1C011100 true 0b011100#6 (fun x _ => ~~~x) ∧
  ComputesAs .compA0C011101 false 0b011101#6 (fun x _ => x) ∧
  ComputesAs .compA1C011101 true 0b011101#6 (fun x _ => x) ∧
  ComputesAs .compA0C011110 false 0b011110#6 (fun x _ => -x - 2#16) ∧
  ComputesAs .compA1C011110 true 0b011110#6 (fun x _ => -x - 2#16)

/-- Rests on 40_alu.md section 4. By the table of all 64 patterns, at a = 0: 100010 computes A, 100011 computes ~A (=
-A-1), 100110 computes ~A (= -A-1), 100111 computes A, 110100 computes ~A, 110101 computes A, 110110 computes ~A-1 (=
-A-2); at a = 1 the same function of the memory word. Each with every dest field and jump code, at both values of the
a bit, from every state in which PC does not overflow, exec answers exactly the next state of rule R180: the result in
each destination the dest field names, the jump on the signed result, every other register, data word and instruction
word unchanged. M is the word the data memory presents at A[14:0]. The case of a write to an address of the parameter
devices, which decision D7 leaves to the platform, is the model's choice and no rule of the spec: the write reaches
the ports alone and storage is unchanged (log entry 10, DESIGN CHOICE). The next state also fixes the model's own
fields, which no rule of the spec gives: the cycle number grows by one and picks the free value outM carries where
writeM = 0 (log entry 6, DESIGN CHOICE), one reset input is consumed (log entry 7, DEDUCED), the ports are recorded
(log entry 8, DESIGN CHOICE). -/
def Obligations.NonCanonicalFunctionsOfY : Prop :=
  ComputesAs .compA0C100010 false 0b100010#6 (fun _ y => y) ∧
  ComputesAs .compA1C100010 true 0b100010#6 (fun _ y => y) ∧
  ComputesAs .compA0C100011 false 0b100011#6 (fun _ y => ~~~y) ∧
  ComputesAs .compA1C100011 true 0b100011#6 (fun _ y => ~~~y) ∧
  ComputesAs .compA0C100110 false 0b100110#6 (fun _ y => ~~~y) ∧
  ComputesAs .compA1C100110 true 0b100110#6 (fun _ y => ~~~y) ∧
  ComputesAs .compA0C100111 false 0b100111#6 (fun _ y => y) ∧
  ComputesAs .compA1C100111 true 0b100111#6 (fun _ y => y) ∧
  ComputesAs .compA0C110100 false 0b110100#6 (fun _ y => ~~~y) ∧
  ComputesAs .compA1C110100 true 0b110100#6 (fun _ y => ~~~y) ∧
  ComputesAs .compA0C110101 false 0b110101#6 (fun _ y => y) ∧
  ComputesAs .compA1C110101 true 0b110101#6 (fun _ y => y) ∧
  ComputesAs .compA0C110110 false 0b110110#6 (fun _ y => -y - 2#16) ∧
  ComputesAs .compA1C110110 true 0b110110#6 (fun _ y => -y - 2#16)

/-- Rests on 40_alu.md section 4. By the table of all 64 patterns, at a = 0: 000001 computes ~(D&A), 000011 computes
~(D+A) (= -D-A-1), 000100 computes D&~A, 000101 computes ~D|A, 000110 computes D+~A (= D-A-1), 010000 computes ~D&A,
010001 computes D|~A, 010010 computes ~D+A (= A-D-1), 010100 computes ~(D|A), 010110 computes ~D+~A (= -D-A-2), 010111
computes D+A+1; at a = 1 the same function of D and the memory word. Each with every dest field and jump code, at both
values of the a bit, from every state in which PC does not overflow, exec answers exactly the next state of rule R180:
the result in each destination the dest field names, the jump on the signed result, every other register, data word
and instruction word unchanged. M is the word the data memory presents at A[14:0]. The case of a write to an address
of the parameter devices, which decision D7 leaves to the platform, is the model's choice and no rule of the spec: the
write reaches the ports alone and storage is unchanged (log entry 10, DESIGN CHOICE). The next state also fixes the
model's own fields, which no rule of the spec gives: the cycle number grows by one and picks the free value outM
carries where writeM = 0 (log entry 6, DESIGN CHOICE), one reset input is consumed (log entry 7, DEDUCED), the ports
are recorded (log entry 8, DESIGN CHOICE). -/
def Obligations.NonCanonicalFunctionsOfBoth : Prop :=
  ComputesAs .compA0C000001 false 0b000001#6 (fun x y => ~~~(x &&& y)) ∧
  ComputesAs .compA1C000001 true 0b000001#6 (fun x y => ~~~(x &&& y)) ∧
  ComputesAs .compA0C000011 false 0b000011#6 (fun x y => -x - y - 1#16) ∧
  ComputesAs .compA1C000011 true 0b000011#6 (fun x y => -x - y - 1#16) ∧
  ComputesAs .compA0C000100 false 0b000100#6 (fun x y => x &&& ~~~y) ∧
  ComputesAs .compA1C000100 true 0b000100#6 (fun x y => x &&& ~~~y) ∧
  ComputesAs .compA0C000101 false 0b000101#6 (fun x y => ~~~x ||| y) ∧
  ComputesAs .compA1C000101 true 0b000101#6 (fun x y => ~~~x ||| y) ∧
  ComputesAs .compA0C000110 false 0b000110#6 (fun x y => x - y - 1#16) ∧
  ComputesAs .compA1C000110 true 0b000110#6 (fun x y => x - y - 1#16) ∧
  ComputesAs .compA0C010000 false 0b010000#6 (fun x y => ~~~x &&& y) ∧
  ComputesAs .compA1C010000 true 0b010000#6 (fun x y => ~~~x &&& y) ∧
  ComputesAs .compA0C010001 false 0b010001#6 (fun x y => x ||| ~~~y) ∧
  ComputesAs .compA1C010001 true 0b010001#6 (fun x y => x ||| ~~~y) ∧
  ComputesAs .compA0C010010 false 0b010010#6 (fun x y => y - x - 1#16) ∧
  ComputesAs .compA1C010010 true 0b010010#6 (fun x y => y - x - 1#16) ∧
  ComputesAs .compA0C010100 false 0b010100#6 (fun x y => ~~~(x ||| y)) ∧
  ComputesAs .compA1C010100 true 0b010100#6 (fun x y => ~~~(x ||| y)) ∧
  ComputesAs .compA0C010110 false 0b010110#6 (fun x y => -x - y - 2#16) ∧
  ComputesAs .compA1C010110 true 0b010110#6 (fun x y => -x - y - 2#16) ∧
  ComputesAs .compA0C010111 false 0b010111#6 (fun x y => x + y + 1#16) ∧
  ComputesAs .compA1C010111 true 0b010111#6 (fun x y => x + y + 1#16)

/-- Rests on 41_jump.md sections 1 and 2. For every ALU output the JumpConditionUnit on its flags gives: never for 000,
out > 0 for JGT, out = 0 for JEQ, out >= 0 for JGE, out < 0 for JLT, out not 0 for JNE, out <= 0 for JLE, always for
JMP, all signed; the codes are 000 to 111 in this order. -/
def Obligations.JumpConditionsTestTheSignedResult : Prop :=
  (∀ out : Word,
    jumpCond .never (zr out) (ng out) = false ∧
    (jumpCond .jgt (zr out) (ng out) = true ↔ 0 < out.toInt) ∧
    (jumpCond .jeq (zr out) (ng out) = true ↔ out.toInt = 0) ∧
    (jumpCond .jge (zr out) (ng out) = true ↔ 0 ≤ out.toInt) ∧
    (jumpCond .jlt (zr out) (ng out) = true ↔ out.toInt < 0) ∧
    (jumpCond .jne (zr out) (ng out) = true ↔ out.toInt ≠ 0) ∧
    (jumpCond .jle (zr out) (ng out) = true ↔ out.toInt ≤ 0) ∧
    jumpCond .jmp (zr out) (ng out) = true) ∧
  [0b000#3, 0b001#3, 0b010#3, 0b011#3, 0b100#3, 0b101#3, 0b110#3, 0b111#3].map
      (fun k => jumpOfBits (k.getLsbD 2) (k.getLsbD 1) (k.getLsbD 0)) =
    [.never, .jgt, .jeq, .jge, .jlt, .jne, .jle, .jmp]

/-- Formalises R130. For every jump code j and every zr and ng not both 1, cond = (j2 and ng) or (j1 and zr) or (j0 and
not zr and not ng); on zr = ng = 1 it differs from the table exactly for code 101, where the formula gives 1 and the
table 0. -/
def Obligations.JumpBitFormula : Prop :=
  ∀ (j : Jump) (zr ng : Bool),
    (¬(zr = true ∧ ng = true) → jumpCond j zr ng =
      ((j.code.getLsbD 2 && ng) || (j.code.getLsbD 1 && zr) || (j.code.getLsbD 0 && !zr && !ng))) ∧
    (jumpCond j true true ≠ ((j.code.getLsbD 2 && true) || (j.code.getLsbD 1 && true) || (j.code.getLsbD 0 && !true && !true)) ↔
      j = .jne) ∧
    jumpCond .jne true true = false

/-- Rests on 41_jump.md section 3. From every state with D = 0x7FFF and A = 0xFFFF and no reset, D-A;JLT computes 0x8000
and takes the jump to 0x7FFF, although 32767 > -1 signed; exec answers that next state for every dest field. The case
of a write to an address of the parameter devices, which decision D7 leaves to the platform, is the model's choice and
no rule of the spec: the write reaches the ports alone and storage is unchanged (log entry 10, DESIGN CHOICE). The
next state also fixes the model's own fields, which no rule of the spec gives: the cycle number grows by one and picks
the free value outM carries where writeM = 0 (log entry 6, DESIGN CHOICE), one reset input is consumed (log entry 7,
DEDUCED), the ports are recorded (log entry 8, DESIGN CHOICE). -/
def Obligations.SignedOverflowReversesComparison : Prop :=
  ∀ (d : Dest) (s : State), s.regs.d = 0x7FFF#16 → s.regs.a = 0xFFFF#16 → s.resetNow = false →
    (s.regs.a.toInt < s.regs.d.toInt) ∧
    exec (.compDMinusA d .jlt) s = .next (afterCompute s 0x8000#16 d .jlt) ∧
    (afterCompute s 0x8000#16 d .jlt).regs.pc = 0x7FFF#15

/-- Rests on 42_register_file.md section 1. For every word w and every cycle that has a next state: A' is the whole word
for an A-instruction, the ALU result for a C-instruction with bit 5, else A; D' is the ALU result for a C-instruction
with bit 4, else D; writeM is 1 exactly for a C-instruction with bit 3, and then the ALU result is outM and is written
at A[14:0] of the pre-commit A (rules R141 to R143). The case of a write to an address of the parameter devices, which
decision D7 leaves to the platform, is the model's choice and no rule of the spec: the write reaches the ports alone
and storage is unchanged (log entry 10, DESIGN CHOICE). -/
def Obligations.RegisterLoadsAndWriteRequest : Prop :=
  ∀ (w : Word) (s t : State), exec (decode w) s = .next t →
    t.regs.a = (if bit w 15 then (if bit w 5 then resultOf w s else s.regs.a) else w) ∧
    t.regs.d = (if bit w 15 && bit w 4 then resultOf w s else s.regs.d) ∧
    (if bit w 15 && bit w 3 then Wrote s t (resultOf w s) else WroteNothing s t)

/-- Rests on 42_register_file.md section 2. For every C-instruction word and every cycle that has a next state, by bits
5..3: 000 stores nowhere; 001 writes memory only; 010 loads D only; 011 memory and D; 100 A only; 101 A and memory;
110 A and D; 111 A, memory and D. The memory write goes to A[14:0] of the pre-commit A, each destination receives the
same result, and a register that is no destination keeps its value (rules R150 to R157). The case of a write to an
address of the parameter devices, which decision D7 leaves to the platform, is the model's choice and no rule of the
spec: the write reaches the ports alone and storage is unchanged (log entry 10, DESIGN CHOICE). -/
def Obligations.DestCodes : Prop :=
  ∀ (w : Word) (s t : State), bit w 15 = true → exec (decode w) s = .next t →
    (w.extractLsb' 3 3 = 0b000#3 → t.regs.a = s.regs.a ∧ t.regs.d = s.regs.d ∧ WroteNothing s t) ∧
    (w.extractLsb' 3 3 = 0b001#3 → t.regs.a = s.regs.a ∧ t.regs.d = s.regs.d ∧ Wrote s t (resultOf w s)) ∧
    (w.extractLsb' 3 3 = 0b010#3 → t.regs.a = s.regs.a ∧ t.regs.d = resultOf w s ∧ WroteNothing s t) ∧
    (w.extractLsb' 3 3 = 0b011#3 → t.regs.a = s.regs.a ∧ t.regs.d = resultOf w s ∧ Wrote s t (resultOf w s)) ∧
    (w.extractLsb' 3 3 = 0b100#3 → t.regs.a = resultOf w s ∧ t.regs.d = s.regs.d ∧ WroteNothing s t) ∧
    (w.extractLsb' 3 3 = 0b101#3 → t.regs.a = resultOf w s ∧ t.regs.d = s.regs.d ∧ Wrote s t (resultOf w s)) ∧
    (w.extractLsb' 3 3 = 0b110#3 → t.regs.a = resultOf w s ∧ t.regs.d = resultOf w s ∧ WroteNothing s t) ∧
    (w.extractLsb' 3 3 = 0b111#3 → t.regs.a = resultOf w s ∧ t.regs.d = resultOf w s ∧ Wrote s t (resultOf w s))

/-- Formalises R144. For every instruction, two cycles from states that differ only in this cycle's reset input leave
states that agree on A, D, data memory, instruction memory and all four output ports, where both have a next state:
reset changes only the next PC. -/
def Obligations.ResetDoesNotEnterLoadsOrPorts : Prop :=
  ∀ (i : Instr) (s t t' : State) (later : List Bool),
    exec i { s with resetInputs := true :: later } = .next t →
    exec i { s with resetInputs := false :: later } = .next t' →
    { t with regs := { t.regs with pc := 0x0000#15 } } = { t' with regs := { t'.regs with pc := 0x0000#15 } }

/-- Formalises R162, R163. For every word and every cycle that has a next state: PC' is 0 if reset is 1, whatever the
jump; else, for a C-instruction whose jump code holds of its signed result, the low 15 bits of the A held before the
cycle; else PC + 1. So A=D;JMP without reset jumps to the old A[14:0] and leaves the old D in A. -/
def Obligations.NextPcPriority : Prop :=
  (∀ (w : Word) (s t : State), exec (decode w) s = .next t →
    t.regs.pc =
      if s.resetNow then 0x0000#15
      else if takesJump w s then s.regs.a.setWidth 15
      else s.regs.pc + 1) ∧
  ∀ (s t : State), s.resetNow = false → exec (decode 0xE327#16) s = .next t →
    t.regs.pc = s.regs.a.setWidth 15 ∧ t.regs.a = s.regs.d

/-- Formalises R161. For every word at PC = 0x7FFF: with reset = 0 and no taken jump, exec answers a next state with PC' =
0 where pcOverflow is wrap, and the fault PcOverflow where it is fault; with reset = 1 or a taken jump it answers a
next state under either. -/
def Obligations.PcOverflowIsTheParameter : Prop :=
  ∀ (w : Word) (s : State), s.regs.pc = 0x7FFF#15 →
    (s.resetNow = false ∧ takesJump w s = false →
      match Config.pcOverflow with
      | .wrap => ∃ t : State, exec (decode w) s = .next t ∧ t.regs.pc = 0x0000#15
      | .fault => exec (decode w) s = .fault .pcOverflow) ∧
    (s.resetNow = true ∨ takesJump w s = true → ∃ t : State, exec (decode w) s = .next t)

/-- Rests on 44_address_instruction.md; 43_program_counter.md. For every literal v, the word of @v is 0 followed by v, and
from every state in which PC does not overflow exec answers exactly: A' = v with bit 15 zero, D and both memories
unchanged, writeM = 0, addressM the old A[14:0], pc the old PC, PC' = 0 on reset, else PC + 1 (rule R170). On the
increment from PC = 0x7FFF exec answers that state with PC' = 0 where pcOverflow is wrap, and the fault PcOverflow
where it is fault (rule R161). The next state also fixes the model's own fields, which no rule of the spec gives: the
cycle number grows by one and picks the free value outM carries where writeM = 0 (log entry 6, DESIGN CHOICE), one
reset input is consumed (log entry 7, DEDUCED), the ports are recorded (log entry 8, DESIGN CHOICE). -/
def Obligations.AddressInstructionLoadsLiteral : Prop :=
  ∀ v : Addr, encode (.atValue v) = 0b0#1 ++ v ∧
    ∀ s : State,
      (NoPcOverflow s false → exec (.atValue v) s = .next (afterAddress s v)) ∧
      (s.resetNow = false ∧ s.regs.pc = 0x7FFF#15 →
        match Config.pcOverflow with
        | .wrap => exec (.atValue v) s = .next (afterAddress s v) ∧ (afterAddress s v).regs.pc = 0x0000#15
        | .fault => exec (.atValue v) s = .fault .pcOverflow)

/-- Formalises R171. For every literal and every cycle that has a next state: data memory and D are unchanged, writeM is
0, and PC' is 0 on reset, else PC + 1, whatever the literal's low bits. -/
def Obligations.AddressInstructionNeverWritesOrJumps : Prop :=
  ∀ (v : Addr) (s t : State), exec (.atValue v) s = .next t →
    WroteNothing s t ∧ t.regs.d = s.regs.d ∧ t.regs.pc = if s.resetNow then 0x0000#15 else s.regs.pc + 1

/-- Formalises R173. For every literal v and two successive cycles of @v: A = v after each; addressM of the first cycle is
the old A[14:0], so it is v only if A[14:0] already was v; addressM of the second cycle, and of the cycle of any
instruction after it, is v. -/
def Obligations.ReloadingTheSameAddress : Prop :=
  ∀ (v : Addr) (s t u : State), exec (.atValue v) s = .next t → exec (.atValue v) t = .next u →
    t.regs.a = 0b0#1 ++ v ∧ u.regs.a = 0b0#1 ++ v ∧
    t.outputs.map (·.addressM) = some (s.regs.a.setWidth 15) ∧
    u.outputs.map (·.addressM) = some v ∧
    ∀ (i : Instr) (r : State), exec i u = .next r → r.outputs.map (·.addressM) = some v

/-- Rests on 10_state.md section 7; 45_compute_instruction.md. For a C-instruction with a = 0 the next registers and the
ports are the same whatever data memory holds. For an A-instruction, and for a C-instruction with a = 1, inverting bit
15 of A changes neither the next D, PC, memories and ports, nor the next A where A is loaded. The ports are compared
as far as the spec gives them a value: outM only where writeM = 1. -/
def Obligations.UnusedOperandHasNoEffect : Prop :=
  ∀ (w : Word) (s t t' : State),
    (bit w 15 = true ∧ bit w 12 = false → ∀ ram' : Memory,
      exec (decode w) s = .next t → exec (decode w) { s with ram := ram' } = .next t' →
      t.regs = t'.regs ∧ t.outputs.map validPorts = t'.outputs.map validPorts) ∧
    (bit w 15 = false ∨ bit w 12 = true →
      exec (decode w) s = .next t →
      exec (decode w) { s with regs := { s.regs with a := s.regs.a ^^^ 0x8000#16 } } = .next t' →
      t.regs.d = t'.regs.d ∧ t.regs.pc = t'.regs.pc ∧ t.ram = t'.ram ∧ t.rom = t'.rom ∧
      t.outputs.map validPorts = t'.outputs.map validPorts ∧
      ((signals w).loadA = true → t.regs.a = t'.regs.a))

/-- Formalises R183. For every C-instruction with a = 1 and dest bit 3 and every cycle that has a next state: outM is the
ALU function of D and the word the data memory presented at A[14:0] before the cycle; after it that address reads
outM, where it is plain storage and not of the parameter devices (decision D7); and every other data word is as
before. -/
def Obligations.ReadModifyWriteOfOneWord : Prop :=
  ∀ (w : Word) (s t : State), bit w 15 = true → bit w 12 = true → bit w 3 = true →
    exec (decode w) s = .next t →
    t.outputs.map (·.outM) = some (alu s.regs.d (s.dataWord (s.regs.a.setWidth 15)) (controlField w)) ∧
    (s.isDevice (s.regs.a.setWidth 15) = false →
      t.dataWord (s.regs.a.setWidth 15) = alu s.regs.d (s.dataWord (s.regs.a.setWidth 15)) (controlField w)) ∧
    ∀ p : Addr, p ≠ s.regs.a.setWidth 15 → t.ram.read p = s.ram.read p

/-- Rests on 45_compute_instruction.md. For every C-instruction with dest bit 5 and every cycle that has a next state: A'
is the ALU result; if dest contains M too, the result is written at the pre-commit A[14:0]; if the jump is taken and
reset is 0, PC' is the pre-commit A[14:0] (rules R184 and R185). The case of a write to an address of the parameter
devices, which decision D7 leaves to the platform, is the model's choice and no rule of the spec: the write reaches
the ports alone and storage is unchanged (log entry 10, DESIGN CHOICE). -/
def Obligations.LoadedAIsNotUsedInItsOwnCycle : Prop :=
  ∀ (w : Word) (s t : State), bit w 15 = true → bit w 5 = true → exec (decode w) s = .next t →
    t.regs.a = resultOf w s ∧
    (bit w 3 = true → Wrote s t (resultOf w s)) ∧
    (s.resetNow = false → takesJump w s = true → t.regs.pc = s.regs.a.setWidth 15)

/-- Rests on 46_cpu_step.md section 1; 20_memory.md section 3; 30_encoding.md section 3. For every word w and every state,
exec (decode w) gives exactly the outcome of CpuStep (rule R201, written over the decoder signals of the raw word) in
the harness cycle: the same next registers, ports, memories and fault. -/
def Obligations.ExecOfDecodedWordIsCpuStep : Prop :=
  ∀ (w : Word) (s : State), exec (decode w) s = harnessCycle w s

/-- Formalises R208, R209. For every instruction and every cycle that has a next state the ports show addressM = the low
15 bits of the A held before the cycle, even when A is loaded, and the next cycle's addressM is the low 15 bits of the
new A; writeM is 1 exactly if the instruction's word is a C-instruction with dest bit 3. -/
def Obligations.AddressAndWritePortInvariants : Prop :=
  ∀ (i : Instr) (s t : State), exec i s = .next t →
    (∃ o : Outputs, t.outputs = some o ∧ o.addressM = s.regs.a.setWidth 15 ∧ o.pc = s.regs.pc ∧
      o.writeM = (bit (encode i) 15 && bit (encode i) 3)) ∧
    ∀ (i' : Instr) (u : State), exec i' t = .next u → u.outputs.map (·.addressM) = some (t.regs.a.setWidth 15)

/-- Rests on 60_exceptions.md section 1; 46_cpu_step.md section 1; 30_encoding.md section 5. For every instruction, with
every operand, and every state with reset = 1 or PC other than 0x7FFF, exec answers a next state. From any state at
all it answers a next state or the fault PcOverflow, the latter only at PC = 0x7FFF with reset = 0 and pcOverflow =
fault, and never a refusal. -/
def Obligations.EveryInstructionCompletes : Prop :=
  ∀ (i : Instr) (s : State),
    (s.resetNow = true ∨ s.regs.pc ≠ 0x7FFF#15 → ∃ t : State, exec i s = .next t) ∧
    ((∃ t : State, exec i s = .next t) ∨
      (exec i s = .fault .pcOverflow ∧ s.regs.pc = 0x7FFF#15 ∧ s.resetNow = false ∧ Config.pcOverflow = .fault))

/-- Formalises R222. From every state, step answers a next state; or the fault FetchUnloaded with the current PC, exactly
where the instruction memory defines no word at PC; or the fault PcOverflow, only under pcOverflow = fault on an
increment from 0x7FFF. It never answers anything else. A run that meets a fault after any number of completed cycles,
with PC = haltPc in none of them and not at the fault, ends faulted, which is no successful end. -/
def Obligations.ExactlyTwoModelFaults : Prop :=
  ∀ s : State,
    ((fetch s = none ∧ step s = .fault (.fetchUnloaded s.regs.pc)) ∨
      (∃ w : Word, fetch s = some w ∧
        ((∃ t : State, step s = .next t) ∨
          (step s = .fault .pcOverflow ∧ Config.pcOverflow = .fault ∧ s.regs.pc = 0x7FFF#15 ∧ s.resetNow = false ∧
            takesJump w s = false)))) ∧
    ∀ (n fuel : Nat) (os : List Outputs) (t : State) (f : Fault) (haltPc : Addr), cyclesFrom n s = some (os, t) →
      (∀ o ∈ os, o.pc ≠ haltPc) → t.regs.pc ≠ haltPc → step t = .fault f → run haltPc (n + fuel + 1) s = .faulted f

/-- Rests on 10_state.md sections 2 and 5; 42_register_file.md; 20_memory.md section 2. For every instruction of the table
and every cycle that has a next state: A is unchanged unless the instruction is @v or has dest bit 5; D is unchanged
unless it has dest bit 4; every data word is unchanged if it has no dest bit 3 (or is @v), and every data word other
than the one at A[14:0] of the pre-commit A is unchanged if it has; the instruction memory and the set of devices are
unchanged. PC may change. The model's own fields advance: one reset input is consumed, the cycle number grows by one
(log entries 6 and 7). -/
def Obligations.FrameOfEveryInstruction : Prop :=
  ∀ (i : Instr) (s t : State), exec i s = .next t →
    (bit (encode i) 15 = true → bit (encode i) 5 = false → t.regs.a = s.regs.a) ∧
    (bit (encode i) 15 = false ∨ bit (encode i) 4 = false → t.regs.d = s.regs.d) ∧
    (bit (encode i) 15 = false ∨ bit (encode i) 3 = false → ∀ p : Addr, t.ram.read p = s.ram.read p) ∧
    (bit (encode i) 15 = true → bit (encode i) 3 = true →
      ∀ p : Addr, p ≠ addressM s → t.ram.read p = s.ram.read p) ∧
    t.rom = s.rom ∧ t.devices = s.devices ∧ t.resetInputs = s.resetInputs.tail ∧ t.cycle = s.cycle + 1

/-- Rests on 20_memory.md section 3. For every number of cycles from every state, and every address p: the word read at p
afterwards is the outM of the latest of those cycles with writeM = 1 and addressM = p, or the word p held before them
if there is none; and the instruction at every address is the one it held before. This is rule R49, at every address
outside the parameter devices. That an address of devices keeps the storage it has is the model's choice and no rule
of the spec: decision D7 leaves device writes to the platform (log entry 10, DESIGN CHOICE). -/
def Obligations.MemoryReadsTheLatestWrite : Prop :=
  ∀ (n : Nat) (s t : State) (os : List Outputs), cyclesFrom n s = some (os, t) →
    ∀ p : Addr,
      (s.isDevice p = false → t.dataWord p = latestWrite p (s.dataWord p) os) ∧
      (s.isDevice p = true → t.ram.read p = s.ram.read p) ∧
      t.rom.fetch? p = s.rom.fetch? p

/-- Rests on 20_memory.md section 1. For every state whose memories are canonical (addresses strictly rising and below
2^15; in data memory no word listed that an unlisted address reads as) and whose list of devices names no address
twice, if step answers a next state, the same holds of it. The form is the model's own choice and no rule of the spec
(log entries 1, 3 and 10); the spec gives the address range. -/
def Obligations.StepKeepsMemoriesCanonical : Prop :=
  ∀ s t : State, Inv s → step s = .next t → Inv t

/-- Rests on 20_memory.md section 1; 70_reset_and_hazards.md section 1. The memories of State.reset are canonical, and
stay so when an instruction word is placed where the next step fetches; no device is listed twice. The form is the
model's own choice and no rule of the spec (log entries 1, 3 and 10), and so is the placing of a word with
withFetchWord (log entry 4). -/
def Obligations.ResetMemoriesCanonical : Prop :=
  Inv State.reset ∧ ∀ (s : State) (nbits w : Nat), Inv s → Inv (s.withFetchWord nbits w)

/-- Formalises R258. For every state, if step answers a next state, its instruction memory is the same, so every later
fetch reads what was loaded: code cannot modify itself. -/
def Obligations.InstructionMemoryIsNeverWritten : Prop :=
  ∀ s t : State, step s = .next t → t.rom = s.rom ∧ ∀ p : Addr, t.rom.fetch? p = s.rom.fetch? p

/-- Formalises R50. For every word and every cycle that has a next state: the memory events are the read of the old word
at addressM if and only if the word is a C-instruction with a = 1, followed by one write (addressM, outM) if and only
if writeM is 1 on the ports. -/
def Obligations.MemoryEventsOfACycle : Prop :=
  ∀ (w : Word) (s t : State), exec (decode w) s = .next t →
    ∃ o : Outputs, t.outputs = some o ∧
      cycleEvents w s =
        (if bit w 15 && bit w 12 then [.read o.addressM (s.dataWord o.addressM)] else [])
          ++ (if o.writeM then [.write o.addressM o.outM] else [])

/-- Formalises R252. For every state with reset = 1 and an instruction loaded at PC, step answers a next state with PC' =
0; A', D' and data memory are those of the same cycle with reset = 0 where that has a next state; and the next step
executes the word at instruction address 0, whatever it is. -/
def Obligations.ResetCycleRestartsAtZero : Prop :=
  ∀ (s : State) (w : Word), fetch s = some w → s.resetNow = true →
    ∃ t : State, step s = .next t ∧ WarmStart t ∧
      (∀ t' : State, exec (decode w) { s with resetInputs := [] } = .next t' →
        t.regs.a = t'.regs.a ∧ t.regs.d = t'.regs.d ∧ t.ram = t'.ram) ∧
      ∀ w0 : Word, s.rom.fetch? 0x0000#15 = some w0 → step t = exec (decode w0) t

/-- Formalises R253. State.reset has A = D = PC = 0, and with any word loaded at address 0 the first step executes it. For
every state with reset = 1 and a word loaded at PC, step answers a next state with PC' = 0 in which A and D are as the
word's instruction decides and as in the same cycle with reset = 0: the input clears only PC, so that a cycle with
reset = 1 can leave A and D not zero. -/
def Obligations.ConstructZeroesADPcAndResetInputOnlyPc : Prop :=
  ColdStart State.reset ∧
  (∀ w : Word, step (State.reset.withFetchWord 16 w.toNat) = exec (decode w) (State.reset.withFetchWord 16 w.toNat)) ∧
  (∀ (s : State) (w : Word), s.resetNow = true → fetch s = some w →
    ∃ t : State, step s = .next t ∧ t.regs.pc = 0x0000#15 ∧
      t.regs.a = (if bit w 15 then (if bit w 5 then resultOf w s else s.regs.a) else w) ∧
      t.regs.d = (if bit w 15 && bit w 4 then resultOf w s else s.regs.d) ∧
      ∀ t' : State, step { s with resetInputs := false :: s.resetInputs.tail } = .next t' →
        t.regs.a = t'.regs.a ∧ t.regs.d = t'.regs.d ∧ t.ram = t'.ram) ∧
  ∃ s t : State, s.resetNow = true ∧ step s = .next t ∧ t.regs.a ≠ 0x0000#16 ∧ t.regs.d ≠ 0x0000#16 ∧
    t.regs.pc = 0x0000#15

/-- Rests on 20_memory.md section 3; 43_program_counter.md. For every state whose instruction memory holds w at PC, step
at that state is exec (decode w) at that state, with nothing around it; for every word decode gives an instruction. -/
def Obligations.StepRunsTheDecodedInstruction : Prop :=
  ∀ (s : State) (w : Word), s.rom.fetch? s.regs.pc = some w → step s = exec (decode w) s

/-- Rests on 92_eei_decisions.md section 2. For every fuel, haltPc and state: if run ends halted in t, then t is the state
after some number n of cycles, n at most the fuel, with PC = haltPc in t and in no state before it; the word at haltPc
was not executed. -/
def Obligations.RunHaltsOnlyAtHaltPc : Prop :=
  ∀ (haltPc : Addr) (fuel : Nat) (s t : State), run haltPc fuel s = .halted t →
    ∃ (n : Nat) (os : List Outputs), n ≤ fuel ∧ cyclesFrom n s = some (os, t) ∧ t.regs.pc = haltPc ∧
      ∀ o ∈ os, o.pc ≠ haltPc

/-- Rests on 70_reset_and_hazards.md section 3; 46_cpu_step.md section 1. For every n, if n cycles from s end in t, then
exactly n cycles showed their ports, the cycle number grew by n and n reset inputs were consumed; n + m cycles are n
cycles followed by m. The cycle number and the reset list are the model's own bookkeeping (log entries 6, DESIGN
CHOICE, and 7); the spec gives the core no such counter. -/
def Obligations.OneInstructionPerCycle : Prop :=
  ∀ (n : Nat) (s t : State) (os : List Outputs), cyclesFrom n s = some (os, t) →
    os.length = n ∧ t.cycle = s.cycle + n ∧ t.resetInputs = s.resetInputs.drop n ∧
    ∀ m : Nat, cyclesFrom (n + m) s = (cyclesFrom m t).map (fun r => (os ++ r.1, r.2))

/-- Rests on 00_scope.md section 4; 20_memory.md section 3; 92_eei_decisions.md D7. The spec leaves what a device does to
the platform (decision D7, OPEN); that a device read is the free value of the cycle and the address, and that a device
write leaves plain storage unchanged, is the model's choice (log entry 10, DESIGN CHOICE). For every word and every
cycle with A[14:0] in devices that has a next state: the result of a C-instruction with a = 1 is the ALU function of D
and that free value, data memory and the set of devices are unchanged, and a write is on the ports. An address of no
device reads what plain storage holds. -/
def Obligations.DeviceAddressesBelongToThePlatform : Prop :=
  (∀ (w : Word) (s t : State), s.isDevice (s.regs.a.setWidth 15) = true → exec (decode w) s = .next t →
    (bit w 12 = true →
      resultOf w s = alu s.regs.d (Config.deviceWord s.cycle (s.regs.a.setWidth 15)) (controlField w)) ∧
    t.ram = s.ram ∧ t.devices = s.devices ∧
    (bit w 15 = true → bit w 3 = true → t.outputs.map validPorts =
      some (some (resultOf w s), true, s.regs.a.setWidth 15, s.regs.pc))) ∧
  ∀ (s : State) (p : Addr), s.isDevice p = false → s.dataWord p = s.ram.read p
end

