-- ==== Sys2Proof/Laws/Decode.lean ====
section
/-! SUPPORT. What the decoder and the encoder do with each field of a word (rules R62 to R64). -/

namespace Sys2Proof

/-! The fields of the word of a C-instruction. -/

/-- Bit i of the word of a C-instruction, field by field from the low end (rule R63). -/
theorem bit_computeWord (a : Bool) (c : BitVec 6) (d : Dest) (j : Jump) (i : Nat) :
    bit (computeWord a c d j) i =
      if i < 3 then j.code.getLsbD i
      else if i - 3 < 3 then d.code.getLsbD (i - 3)
      else if i - 3 - 3 < 6 then c.getLsbD (i - 3 - 3)
      else if i - 3 - 3 - 6 < 1 then (BitVec.ofBool a).getLsbD (i - 3 - 3 - 6)
      else (0b111#3).getLsbD (i - 3 - 3 - 6 - 1) := by
  show BitVec.getLsbD (w := 3 + 1 + 6 + 3 + 3) (0b111#3 ++ BitVec.ofBool a ++ c ++ d.code ++ j.code) i = _
  simp only [BitVec.getLsbD_append]

@[simp] theorem bit15_computeWord (a : Bool) (c : BitVec 6) (d : Dest) (j : Jump) :
    bit (computeWord a c d j) 15 = true := by
  rw [bit_computeWord]; rfl

@[simp] theorem bit12_computeWord (a : Bool) (c : BitVec 6) (d : Dest) (j : Jump) :
    bit (computeWord a c d j) 12 = a := by
  rw [bit_computeWord]; cases a <;> rfl

@[simp] theorem controlField_computeWord (a : Bool) (c : BitVec 6) (d : Dest) (j : Jump) :
    controlField (computeWord a c d j) = controlOf c := by
  simp only [controlField, bit_computeWord]; rfl

@[simp] theorem destField_computeWord (a : Bool) (c : BitVec 6) (d : Dest) (j : Jump) :
    destField (computeWord a c d j) = d := by
  simp only [destField, bit_computeWord]
  rcases d with ⟨_ | _, _ | _, _ | _⟩ <;> rfl

@[simp] theorem jumpField_computeWord (a : Bool) (c : BitVec 6) (d : Dest) (j : Jump) :
    jumpField (computeWord a c d j) = j := by
  simp only [jumpField, bit_computeWord]
  cases j <;> rfl

/-- The word of a C-instruction decodes by its comp bits. -/
theorem decode_computeWord (a : Bool) (c : BitVec 6) (d : Dest) (j : Jump) :
    decode (computeWord a c d j) = if a then compOfM (controlOf c) d j else compOfA (controlOf c) d j := by
  cases a <;> simp [decode]

/-- Bit 15 of the word of an A-instruction is 0 (rule R62). -/
@[simp] theorem bit15_literal (v : Addr) : bit (0b0#1 ++ v) 15 = false := by
  show BitVec.getLsbD (w := 1 + 15) (0b0#1 ++ v) 15 = false
  rw [BitVec.getLsbD_append]; rfl

/-- The word of an A-instruction is its literal, zero-extended (rule R65). -/
theorem literal_eq_zext (v : Addr) : (0b0#1 ++ v : Word) = v.setWidth 16 := by
  apply BitVec.eq_of_toNat_eq
  have h : BitVec.toNat (w := 1 + 15) (0b0#1 ++ v) = v.toNat := by
    rw [BitVec.toNat_append]; simp
  have h' : (v.setWidth 16).toNat = v.toNat := by
    rw [BitVec.toNat_setWidth]; exact Nat.mod_eq_of_lt (Nat.lt_trans v.isLt (by decide))
  exact h.trans h'.symm

@[simp] theorem literalField_literal (v : Addr) : literalField (0b0#1 ++ v) = v := by
  rw [literalField, literal_eq_zext]
  exact BitVec.setWidth_setWidth_of_le v (by decide) |>.trans (BitVec.setWidth_eq v)

/-- The word of an A-instruction decodes to it. -/
theorem decode_literal (v : Addr) : decode (0b0#1 ++ v) = .atValue v := by
  simp [decode]

@[simp] theorem controlOf_code (c : Control) : controlOf c.code = c := by
  rcases c with ⟨_ | _, _ | _, _ | _, _ | _, _ | _, _ | _⟩ <;> rfl

/-! Every row runs the shared `compute` at its own comp bits. -/

theorem exec_compOfA (c : Control) (d : Dest) (j : Jump) (s : Machine.State) :
    Machine.exec (compOfA c d j) s = Machine.compute false c.code d j s := by
  rcases c with ⟨_ | _, _ | _, _ | _, _ | _, _ | _, _ | _⟩ <;> rfl

theorem exec_compOfM (c : Control) (d : Dest) (j : Jump) (s : Machine.State) :
    Machine.exec (compOfM c d j) s = Machine.compute true c.code d j s := by
  rcases c with ⟨_ | _, _ | _, _ | _, _ | _, _ | _, _ | _⟩ <;> rfl

theorem encode_compOfA (c : Control) (d : Dest) (j : Jump) :
    encode (compOfA c d j) = computeWord false c.code d j := by
  rcases c with ⟨_ | _, _ | _, _ | _, _ | _, _ | _, _ | _⟩ <;> rfl

theorem encode_compOfM (c : Control) (d : Dest) (j : Jump) :
    encode (compOfM c d j) = computeWord true c.code d j := by
  rcases c with ⟨_ | _, _ | _, _ | _, _ | _, _ | _, _ | _⟩ <;> rfl

end Sys2Proof
end

