-- ==== Sys2Proof/Laws/State.lean ====
section
/-! SUPPORT. One lemma per field per update of State, so that no later proof unfolds a record update. -/

namespace Sys2Proof.Machine

@[simp] theorem State.setRegs_regs (s : State) (r : RegisterState) : (s.setRegs r).regs = r := rfl
@[simp] theorem State.setRegs_ram (s : State) (r : RegisterState) : (s.setRegs r).ram = s.ram := rfl
@[simp] theorem State.setRegs_rom (s : State) (r : RegisterState) : (s.setRegs r).rom = s.rom := rfl
@[simp] theorem State.setRegs_devices (s : State) (r : RegisterState) : (s.setRegs r).devices = s.devices := rfl
@[simp] theorem State.setRegs_isDevice (s : State) (r : RegisterState) (q : Addr) :
    (s.setRegs r).isDevice q = s.isDevice q := rfl
@[simp] theorem State.setRegs_resetInputs (s : State) (r : RegisterState) :
    (s.setRegs r).resetInputs = s.resetInputs := rfl
@[simp] theorem State.setRegs_cycle (s : State) (r : RegisterState) : (s.setRegs r).cycle = s.cycle := rfl
@[simp] theorem State.setRegs_outputs (s : State) (r : RegisterState) : (s.setRegs r).outputs = s.outputs := rfl
@[simp] theorem State.setRegs_resetNow (s : State) (r : RegisterState) : (s.setRegs r).resetNow = s.resetNow := rfl

@[simp] theorem State.store_regs (s : State) (p : Addr) (v : Word) : (s.store p v).regs = s.regs := rfl
@[simp] theorem State.store_ram (s : State) (p : Addr) (v : Word) :
    (s.store p v).ram = if s.isDevice p then s.ram else s.ram.write p v := rfl
@[simp] theorem State.store_rom (s : State) (p : Addr) (v : Word) : (s.store p v).rom = s.rom := rfl
@[simp] theorem State.store_devices (s : State) (p : Addr) (v : Word) : (s.store p v).devices = s.devices := rfl
@[simp] theorem State.store_isDevice (s : State) (p : Addr) (v : Word) (q : Addr) :
    (s.store p v).isDevice q = s.isDevice q := rfl
@[simp] theorem State.store_resetInputs (s : State) (p : Addr) (v : Word) :
    (s.store p v).resetInputs = s.resetInputs := rfl
@[simp] theorem State.store_cycle (s : State) (p : Addr) (v : Word) : (s.store p v).cycle = s.cycle := rfl
@[simp] theorem State.store_outputs (s : State) (p : Addr) (v : Word) : (s.store p v).outputs = s.outputs := rfl
@[simp] theorem State.store_resetNow (s : State) (p : Addr) (v : Word) : (s.store p v).resetNow = s.resetNow := rfl

@[simp] theorem State.tick_regs (s : State) (o : Outputs) : (s.tick o).regs = s.regs := rfl
@[simp] theorem State.tick_ram (s : State) (o : Outputs) : (s.tick o).ram = s.ram := rfl
@[simp] theorem State.tick_rom (s : State) (o : Outputs) : (s.tick o).rom = s.rom := rfl
@[simp] theorem State.tick_devices (s : State) (o : Outputs) : (s.tick o).devices = s.devices := rfl
@[simp] theorem State.tick_isDevice (s : State) (o : Outputs) (q : Addr) : (s.tick o).isDevice q = s.isDevice q := rfl
@[simp] theorem State.tick_resetInputs (s : State) (o : Outputs) : (s.tick o).resetInputs = s.resetInputs.tail := rfl
@[simp] theorem State.tick_cycle (s : State) (o : Outputs) : (s.tick o).cycle = s.cycle + 1 := rfl
@[simp] theorem State.tick_outputs (s : State) (o : Outputs) : (s.tick o).outputs = some o := rfl

/-- With no reset input listed, reset is 0 (decision D13). -/
@[simp] theorem State.resetNow_nil (s : State) : State.resetNow { s with resetInputs := [] } = false := rfl

@[simp] theorem State.resetNow_cons (s : State) (b : Bool) (bs : List Bool) :
    State.resetNow { s with resetInputs := b :: bs } = b := rfl

end Sys2Proof.Machine
end

