-- ==== Sys2Proof/Laws/Memory.lean ====
section
/-! SUPPORT. The laws of memory: a read after a write, and that every memory operation keeps the canonical form. -/

namespace Sys2Proof.Machine

@[simp] theorem Memory.find?_nil (p : Nat) : Memory.find? [] p = none := rfl

theorem Memory.find?_cons (k : Nat) (v : Word) (rest : Memory) (p : Nat) :
    Memory.find? ((k, v) :: rest) p = if k = p then some v else Memory.find? rest p := rfl

/-- A lookup after listing a word. -/
theorem Memory.find?_insert (m : Memory) (p q : Nat) (v : Word) :
    (m.insert p v).find? q = if p = q then some v else m.find? q := by
  induction m with
  | nil => rfl
  | cons c rest ih =>
    obtain ⟨k, w⟩ := c
    by_cases hlt : p < k
    · simp [Memory.insert, hlt, Memory.find?_cons]
    by_cases heq : p = k
    · by_cases hq : k = q <;> simp [Memory.insert, Memory.find?_cons, heq, hq]
    by_cases hk : k = q
    · subst hk; simp [Memory.insert, Memory.find?_cons, hlt, heq]
    · simp [Memory.insert, Memory.find?_cons, hlt, heq, hk, ih]

/-- A lookup after taking an address off the list. -/
theorem Memory.find?_erase (m : Memory) (p q : Nat) :
    (m.erase p).find? q = if p = q then none else m.find? q := by
  induction m with
  | nil => simp [Memory.erase]
  | cons c rest ih =>
    obtain ⟨k, w⟩ := c
    simp only [Memory.erase]
    split_ifs with hk hq hq <;> simp_all [Memory.find?_cons]

/-- What an address reads as after a write: the word written at its address, the old word elsewhere. -/
theorem Memory.read_write (m : Memory) (p q : Addr) (v : Word) :
    (m.write p v).read q = if p = q then v else m.read q := by
  have inj : p.toNat = q.toNat ↔ p = q := BitVec.toNat_inj
  unfold Memory.write Memory.read
  by_cases hv : v = unlistedWord <;> by_cases hpq : p = q <;>
    simp [hv, hpq, Memory.find?_erase, Memory.find?_insert, inj]

@[simp] theorem Memory.read_write_same (m : Memory) (p : Addr) (v : Word) : (m.write p v).read p = v := by
  simp [Memory.read_write]

theorem Memory.read_write_other (m : Memory) (p q : Addr) (v : Word) (h : p ≠ q) :
    (m.write p v).read q = m.read q := by
  simp [Memory.read_write, h]

/-- What the data memory presents at an address that is no device. -/
theorem State.dataWord_storage (s : State) (p : Addr) (h : s.isDevice p = false) : s.dataWord p = s.ram.read p := by
  simp [State.dataWord, h]

/-- What the data memory presents at a device address: the free value of the cycle. -/
theorem State.dataWord_device (s : State) (p : Addr) (h : s.isDevice p = true) :
    s.dataWord p = Config.deviceWord s.cycle p := by
  simp [State.dataWord, h]

/-- Which addresses are devices depends on the parameter `devices` alone. -/
theorem State.isDevice_congr {s t : State} (h : s.devices = t.devices) (p : Addr) : s.isDevice p = t.isDevice p := by
  simp [State.isDevice, h]

/-- What the data memory presents depends on plain storage, the parameter `devices` and the cycle alone. -/
theorem State.dataWord_congr {s t : State} (hd : s.devices = t.devices) (hm : s.ram = t.ram) (hc : s.cycle = t.cycle)
    (p : Addr) : s.dataWord p = t.dataWord p := by
  simp [State.dataWord, State.isDevice_congr hd, hm, hc]

/-- What plain storage holds after a write: the word written, at its address if that is no device, the old word elsewhere. -/
theorem State.store_read (s : State) (p q : Addr) (v : Word) :
    (s.store p v).ram.read q = if s.isDevice p = false ∧ p = q then v else s.ram.read q := by
  cases h : s.isDevice p <;> simp [State.store, h, Memory.read_write]

/-- The word at an address after the host loads one. -/
theorem Memory.fetch?_load (m : Memory) (p q : Addr) (w : Word) :
    (m.load p w).fetch? q = if p = q then some w else m.fetch? q := by
  have inj : p.toNat = q.toNat ↔ p = q := BitVec.toNat_inj
  simp [Memory.load, Memory.fetch?, Memory.find?_insert, inj]

/-! The canonical form, as a property of each listed cell and of the order. -/

theorem Memory.risingFrom_mono {lo lo' : Nat} {m : Memory} (h : Memory.risingFrom lo' m = true) (hl : lo ≤ lo') :
    Memory.risingFrom lo m = true := by
  cases m with
  | nil => rfl
  | cons c rest =>
    obtain ⟨k, w⟩ := c
    simp only [Memory.risingFrom, Bool.and_eq_true, decide_eq_true_eq] at h ⊢
    exact ⟨by omega, h.2⟩

theorem Memory.risingFrom_insert {m : Memory} {lo p : Nat} (v : Word) (h : Memory.risingFrom lo m = true)
    (hp : lo ≤ p) : Memory.risingFrom lo (m.insert p v) = true := by
  induction m generalizing lo with
  | nil => simpa [Memory.insert, Memory.risingFrom] using hp
  | cons c rest ih =>
    obtain ⟨k, w⟩ := c
    simp only [Memory.risingFrom, Bool.and_eq_true, decide_eq_true_eq] at h
    simp only [Memory.insert]
    split_ifs with hlt heq
    · simp only [Memory.risingFrom, Bool.and_eq_true, decide_eq_true_eq]
      exact ⟨hp, by omega, h.2⟩
    · subst heq
      simp only [Memory.risingFrom, Bool.and_eq_true, decide_eq_true_eq]
      exact h
    · simp only [Memory.risingFrom, Bool.and_eq_true, decide_eq_true_eq]
      exact ⟨h.1, ih h.2 (by omega)⟩

theorem Memory.risingFrom_erase {m : Memory} {lo : Nat} (p : Nat) (h : Memory.risingFrom lo m = true) :
    Memory.risingFrom lo (m.erase p) = true := by
  induction m generalizing lo with
  | nil => rfl
  | cons c rest ih =>
    obtain ⟨k, w⟩ := c
    simp only [Memory.risingFrom, Bool.and_eq_true, decide_eq_true_eq] at h
    simp only [Memory.erase]
    split_ifs with hk
    · exact Memory.risingFrom_mono (ih h.2) (by omega)
    · simp only [Memory.risingFrom, Bool.and_eq_true, decide_eq_true_eq]
      exact ⟨h.1, ih h.2⟩

theorem Memory.all_insert {m : Memory} (f : WordCell → Bool) {p : Nat} {v : Word} (h : m.all f = true)
    (hf : f (p, v) = true) : (m.insert p v).all f = true := by
  induction m with
  | nil => simpa [Memory.insert] using hf
  | cons c rest ih =>
    obtain ⟨k, w⟩ := c
    simp only [List.all_cons, Bool.and_eq_true] at h
    simp only [Memory.insert]
    split_ifs <;> simp [hf, h.1, h.2, ih h.2]

theorem Memory.all_erase {m : Memory} (f : WordCell → Bool) (p : Nat) (h : m.all f = true) :
    (m.erase p).all f = true := by
  induction m with
  | nil => rfl
  | cons c rest ih =>
    obtain ⟨k, w⟩ := c
    simp only [List.all_cons, Bool.and_eq_true] at h
    simp only [Memory.erase]
    split_ifs
    · exact ih h.2
    · simp [h.1, ih h.2]

/-- Loading a word keeps the instruction memory canonical. -/
theorem Memory.loaded_load {m : Memory} (p : Addr) (w : Word) (h : m.loaded = true) : (m.load p w).loaded = true := by
  simp only [Memory.loaded, Bool.and_eq_true] at h ⊢
  exact ⟨Memory.risingFrom_insert w h.1 (Nat.zero_le _), Memory.all_insert _ h.2 (decide_eq_true p.isLt)⟩

/-- A write keeps the data memory canonical. -/
theorem Memory.wf_write {m : Memory} (p : Addr) (v : Word) (h : m.wf = true) : (m.write p v).wf = true := by
  simp only [Memory.wf, Memory.loaded, Bool.and_eq_true] at h ⊢
  obtain ⟨⟨hr, hb⟩, hv⟩ := h
  unfold Memory.write
  split_ifs with hz
  · exact ⟨⟨Memory.risingFrom_erase _ hr, Memory.all_erase _ _ hb⟩, Memory.all_erase _ _ hv⟩
  · exact ⟨⟨Memory.risingFrom_insert v hr (Nat.zero_le _), Memory.all_insert _ hb (decide_eq_true p.isLt)⟩,
      Memory.all_insert _ hv (decide_eq_true hz)⟩

end Sys2Proof.Machine
end

