-- ==== Sys2Proof/Laws/Cycle.lean ====
section
/-! SUPPORT. What each shared operation can do, said once: the next PC, the clock edge, and the instruction classes. -/

namespace Sys2Proof.Machine

@[simp] theorem cellNext_none (v : Word) : cellNext none v = v := rfl
@[simp] theorem cellNext_some (v w : Word) : cellNext (some w) v = w := rfl

theorem cellNext_whenSet (b : Bool) (v w : Word) : cellNext (whenSet b v) w = if b then v else w := by
  cases b <;> rfl

@[simp] theorem whenSet_isSome (b : Bool) (v : Word) : (whenSet b v).isSome = b := by cases b <;> rfl

theorem whenSet_getD (b : Bool) (v w : Word) : (whenSet b v).getD w = if b then v else w := by cases b <;> rfl

/-- Where PC has a next value, it is 0, the target or PC + 1, in this order. -/
theorem nextPc_eq_some {policy : PcOverflow} {reset take : Bool} {target pc pc' : Addr}
    (h : nextPc policy reset take target pc = some pc') :
    pc' = if reset then 0x0000#15 else if take then target else pc + 1 := by
  unfold nextPc incPc at h
  split_ifs at h ⊢ with hr ht htop
  · exact (Option.some.inj h).symm
  · exact (Option.some.inj h).symm
  · subst htop
    cases policy with
    | wrap => exact (Option.some.inj h).symm
    | fault => cases h
  · exact (Option.some.inj h).symm

/-- Where reset or a jump sets PC, or PC is below the top, PC has that next value under either policy. -/
theorem nextPc_of_noOverflow (policy : PcOverflow) {reset take : Bool} (target : Addr) {pc : Addr}
    (h : reset = true ∨ take = true ∨ pc ≠ 0x7FFF#15) :
    nextPc policy reset take target pc = some (if reset then 0x0000#15 else if take then target else pc + 1) := by
  unfold nextPc incPc
  rcases h with h | h | h
  · simp [h]
  · cases reset <;> simp [h]
  · cases reset <;> cases take <;> simp [h]

/-- PC has no next value only on an increment from 0x7FFF under `fault`. -/
theorem nextPc_eq_none {policy : PcOverflow} {reset take : Bool} {target pc : Addr}
    (h : nextPc policy reset take target pc = none) :
    reset = false ∧ take = false ∧ pc = 0x7FFF#15 ∧ policy = .fault := by
  unfold nextPc incPc at h
  split_ifs at h with hr ht htop
  cases policy with
  | wrap => cases h
  | fault => exact ⟨by simpa using hr, by simpa using ht, htop, rfl⟩

@[simp] theorem storeIf_regs (s : State) (w : Option Word) : (storeIf s w).regs = s.regs := by cases w <;> rfl
@[simp] theorem storeIf_rom (s : State) (w : Option Word) : (storeIf s w).rom = s.rom := by cases w <;> rfl
@[simp] theorem storeIf_devices (s : State) (w : Option Word) : (storeIf s w).devices = s.devices := by cases w <;> rfl
@[simp] theorem storeIf_resetInputs (s : State) (w : Option Word) :
    (storeIf s w).resetInputs = s.resetInputs := by cases w <;> rfl
@[simp] theorem storeIf_cycle (s : State) (w : Option Word) : (storeIf s w).cycle = s.cycle := by cases w <;> rfl

theorem storeIf_ram (s : State) (w : Option Word) :
    (storeIf s w).ram = match w with
      | none => s.ram
      | some v => if s.isDevice (addressM s) then s.ram else s.ram.write (addressM s) v := by cases w <;> rfl

/-- Everything the clock edge can do: the fault, or the next state with the value of every field. -/
theorem commitCycle_cases (s : State) (la ld wr : Option Word) (take : Bool) :
    (commitCycle s la ld wr take = .fault .pcOverflow ∧ s.resetNow = false ∧ take = false ∧
      s.regs.pc = 0x7FFF#15 ∧ Config.pcOverflow = .fault) ∨
    commitCycle s la ld wr take = .next
      { regs :=
          { a := cellNext la s.regs.a
            d := cellNext ld s.regs.d
            pc := if s.resetNow then 0x0000#15 else if take then jumpTarget s else s.regs.pc + 1 }
        ram := (storeIf s wr).ram
        rom := s.rom
        devices := s.devices
        resetInputs := s.resetInputs.tail
        cycle := s.cycle + 1
        outputs := some (outputsOf s wr) } := by
  cases hn : nextPc Config.pcOverflow s.resetNow take (jumpTarget s) s.regs.pc with
  | none =>
    obtain ⟨hr, ht, hp, hc⟩ := nextPc_eq_none hn
    exact .inl ⟨by simp only [commitCycle, hn], hr, ht, hp, hc⟩
  | some pc' =>
    right
    have hpc := nextPc_eq_some hn
    subst hpc
    simp only [commitCycle, hn]
    cases wr <;> rfl

/-- The clock edge completes where reset or a jump sets PC, or PC is below the top. -/
theorem commitCycle_next (s : State) (la ld wr : Option Word) {take : Bool}
    (h : s.resetNow = true ∨ take = true ∨ s.regs.pc ≠ 0x7FFF#15) :
    commitCycle s la ld wr take = .next
      { regs :=
          { a := cellNext la s.regs.a
            d := cellNext ld s.regs.d
            pc := if s.resetNow then 0x0000#15 else if take then jumpTarget s else s.regs.pc + 1 }
        ram := (storeIf s wr).ram
        rom := s.rom
        devices := s.devices
        resetInputs := s.resetInputs.tail
        cycle := s.cycle + 1
        outputs := some (outputsOf s wr) } := by
  rcases commitCycle_cases s la ld wr take with ⟨-, hr, ht, hp, -⟩ | h'
  · simp_all
  · exact h'

/-- A C-instruction word runs the shared `compute` on its own fields. -/
theorem exec_decode_compute (w : Word) (s : State) (h : bit w 15 = true) :
    exec (decode w) s = compute (bit w 12) (controlField w).code (destField w) (jumpField w) s := by
  simp only [decode, h]
  cases bit w 12
  · exact exec_compOfA _ _ _ _
  · exact exec_compOfM _ _ _ _

/-- An A-instruction word loads its literal. -/
theorem exec_decode_address (w : Word) (s : State) (h : bit w 15 = false) :
    exec (decode w) s = execAtValue (literalField w) s := by
  simp only [decode, h]
  rfl

/-- A step that answers a next state fetched a word and executed it. -/
theorem step_next {s t : State} (h : step s = .next t) : ∃ w, fetch s = some w ∧ exec (decode w) s = .next t := by
  unfold step at h
  cases hf : fetch s with
  | none => rw [hf] at h; cases h
  | some w => rw [hf] at h; exact ⟨w, rfl, h⟩

end Sys2Proof.Machine
end

