-- ==== Sys2Proof/Laws/PerInstr.lean ====
section
/-! SUPPORT. The statements made per instruction. TableRow: the encoder's word lies in the row of spec/opcode_table.json that
the constructor stands for, by the row's mask and match. -/

namespace Sys2Proof.Laws.TableRow

/-- The match of the row of spec/opcode_table.json an instruction stands for. -/
def rowMatch : Instr → Word
  | .atValue _ => 0x0000#16
  | .compDAndA _ _ => 0x8000#16
  | .compA0C000001 _ _ => 0x8040#16
  | .compDPlusA _ _ => 0x8080#16
  | .compA0C000011 _ _ => 0x80C0#16
  | .compA0C000100 _ _ => 0x8100#16
  | .compA0C000101 _ _ => 0x8140#16
  | .compA0C000110 _ _ => 0x8180#16
  | .compAMinusD _ _ => 0x81C0#16
  | .compA0C001000 _ _ => 0x8200#16
  | .compA0C001001 _ _ => 0x8240#16
  | .compA0C001010 _ _ => 0x8280#16
  | .compA0C001011 _ _ => 0x82C0#16
  | .compD _ _ => 0x8300#16
  | .compNotD _ _ => 0x8340#16
  | .compDMinus1 _ _ => 0x8380#16
  | .compNegD _ _ => 0x83C0#16
  | .compA0C010000 _ _ => 0x8400#16
  | .compA0C010001 _ _ => 0x8440#16
  | .compA0C010010 _ _ => 0x8480#16
  | .compDMinusA _ _ => 0x84C0#16
  | .compA0C010100 _ _ => 0x8500#16
  | .compDOrA _ _ => 0x8540#16
  | .compA0C010110 _ _ => 0x8580#16
  | .compA0C010111 _ _ => 0x85C0#16
  | .compA0C011000 _ _ => 0x8600#16
  | .compA0C011001 _ _ => 0x8640#16
  | .compA0C011010 _ _ => 0x8680#16
  | .compA0C011011 _ _ => 0x86C0#16
  | .compA0C011100 _ _ => 0x8700#16
  | .compA0C011101 _ _ => 0x8740#16
  | .compA0C011110 _ _ => 0x8780#16
  | .compDPlus1 _ _ => 0x87C0#16
  | .compA0C100000 _ _ => 0x8800#16
  | .compA0C100001 _ _ => 0x8840#16
  | .compA0C100010 _ _ => 0x8880#16
  | .compA0C100011 _ _ => 0x88C0#16
  | .compA0C100100 _ _ => 0x8900#16
  | .compA0C100101 _ _ => 0x8940#16
  | .compA0C100110 _ _ => 0x8980#16
  | .compA0C100111 _ _ => 0x89C0#16
  | .compA0C101000 _ _ => 0x8A00#16
  | .compA0C101001 _ _ => 0x8A40#16
  | .comp0 _ _ => 0x8A80#16
  | .compA0C101011 _ _ => 0x8AC0#16
  | .compA0C101100 _ _ => 0x8B00#16
  | .compA0C101101 _ _ => 0x8B40#16
  | .compA0C101110 _ _ => 0x8B80#16
  | .compA0C101111 _ _ => 0x8BC0#16
  | .compA _ _ => 0x8C00#16
  | .compNotA _ _ => 0x8C40#16
  | .compAMinus1 _ _ => 0x8C80#16
  | .compNegA _ _ => 0x8CC0#16
  | .compA0C110100 _ _ => 0x8D00#16
  | .compA0C110101 _ _ => 0x8D40#16
  | .compA0C110110 _ _ => 0x8D80#16
  | .compAPlus1 _ _ => 0x8DC0#16
  | .compA0C111000 _ _ => 0x8E00#16
  | .compA0C111001 _ _ => 0x8E40#16
  | .compNeg1 _ _ => 0x8E80#16
  | .compA0C111011 _ _ => 0x8EC0#16
  | .compA0C111100 _ _ => 0x8F00#16
  | .compA0C111101 _ _ => 0x8F40#16
  | .compA0C111110 _ _ => 0x8F80#16
  | .comp1 _ _ => 0x8FC0#16
  | .compDAndM _ _ => 0x9000#16
  | .compA1C000001 _ _ => 0x9040#16
  | .compDPlusM _ _ => 0x9080#16
  | .compA1C000011 _ _ => 0x90C0#16
  | .compA1C000100 _ _ => 0x9100#16
  | .compA1C000101 _ _ => 0x9140#16
  | .compA1C000110 _ _ => 0x9180#16
  | .compMMinusD _ _ => 0x91C0#16
  | .compA1C001000 _ _ => 0x9200#16
  | .compA1C001001 _ _ => 0x9240#16
  | .compA1C001010 _ _ => 0x9280#16
  | .compA1C001011 _ _ => 0x92C0#16
  | .compA1C001100 _ _ => 0x9300#16
  | .compA1C001101 _ _ => 0x9340#16
  | .compA1C001110 _ _ => 0x9380#16
  | .compA1C001111 _ _ => 0x93C0#16
  | .compA1C010000 _ _ => 0x9400#16
  | .compA1C010001 _ _ => 0x9440#16
  | .compA1C010010 _ _ => 0x9480#16
  | .compDMinusM _ _ => 0x94C0#16
  | .compA1C010100 _ _ => 0x9500#16
  | .compDOrM _ _ => 0x9540#16
  | .compA1C010110 _ _ => 0x9580#16
  | .compA1C010111 _ _ => 0x95C0#16
  | .compA1C011000 _ _ => 0x9600#16
  | .compA1C011001 _ _ => 0x9640#16
  | .compA1C011010 _ _ => 0x9680#16
  | .compA1C011011 _ _ => 0x96C0#16
  | .compA1C011100 _ _ => 0x9700#16
  | .compA1C011101 _ _ => 0x9740#16
  | .compA1C011110 _ _ => 0x9780#16
  | .compA1C011111 _ _ => 0x97C0#16
  | .compA1C100000 _ _ => 0x9800#16
  | .compA1C100001 _ _ => 0x9840#16
  | .compA1C100010 _ _ => 0x9880#16
  | .compA1C100011 _ _ => 0x98C0#16
  | .compA1C100100 _ _ => 0x9900#16
  | .compA1C100101 _ _ => 0x9940#16
  | .compA1C100110 _ _ => 0x9980#16
  | .compA1C100111 _ _ => 0x99C0#16
  | .compA1C101000 _ _ => 0x9A00#16
  | .compA1C101001 _ _ => 0x9A40#16
  | .compA1C101010 _ _ => 0x9A80#16
  | .compA1C101011 _ _ => 0x9AC0#16
  | .compA1C101100 _ _ => 0x9B00#16
  | .compA1C101101 _ _ => 0x9B40#16
  | .compA1C101110 _ _ => 0x9B80#16
  | .compA1C101111 _ _ => 0x9BC0#16
  | .compM _ _ => 0x9C00#16
  | .compNotM _ _ => 0x9C40#16
  | .compMMinus1 _ _ => 0x9C80#16
  | .compNegM _ _ => 0x9CC0#16
  | .compA1C110100 _ _ => 0x9D00#16
  | .compA1C110101 _ _ => 0x9D40#16
  | .compA1C110110 _ _ => 0x9D80#16
  | .compMPlus1 _ _ => 0x9DC0#16
  | .compA1C111000 _ _ => 0x9E00#16
  | .compA1C111001 _ _ => 0x9E40#16
  | .compA1C111010 _ _ => 0x9E80#16
  | .compA1C111011 _ _ => 0x9EC0#16
  | .compA1C111100 _ _ => 0x9F00#16
  | .compA1C111101 _ _ => 0x9F40#16
  | .compA1C111110 _ _ => 0x9F80#16
  | .compA1C111111 _ _ => 0x9FC0#16

/-- The mask of an instruction's row: bit 15 for the A-instruction, bits 15 and 12..6 for every other (rule R68). -/
def rowMask : Instr → Word
  | .atValue _ => 0x8000#16
  | .compDAndA _ _ => 0x9FC0#16
  | .compA0C000001 _ _ => 0x9FC0#16
  | .compDPlusA _ _ => 0x9FC0#16
  | .compA0C000011 _ _ => 0x9FC0#16
  | .compA0C000100 _ _ => 0x9FC0#16
  | .compA0C000101 _ _ => 0x9FC0#16
  | .compA0C000110 _ _ => 0x9FC0#16
  | .compAMinusD _ _ => 0x9FC0#16
  | .compA0C001000 _ _ => 0x9FC0#16
  | .compA0C001001 _ _ => 0x9FC0#16
  | .compA0C001010 _ _ => 0x9FC0#16
  | .compA0C001011 _ _ => 0x9FC0#16
  | .compD _ _ => 0x9FC0#16
  | .compNotD _ _ => 0x9FC0#16
  | .compDMinus1 _ _ => 0x9FC0#16
  | .compNegD _ _ => 0x9FC0#16
  | .compA0C010000 _ _ => 0x9FC0#16
  | .compA0C010001 _ _ => 0x9FC0#16
  | .compA0C010010 _ _ => 0x9FC0#16
  | .compDMinusA _ _ => 0x9FC0#16
  | .compA0C010100 _ _ => 0x9FC0#16
  | .compDOrA _ _ => 0x9FC0#16
  | .compA0C010110 _ _ => 0x9FC0#16
  | .compA0C010111 _ _ => 0x9FC0#16
  | .compA0C011000 _ _ => 0x9FC0#16
  | .compA0C011001 _ _ => 0x9FC0#16
  | .compA0C011010 _ _ => 0x9FC0#16
  | .compA0C011011 _ _ => 0x9FC0#16
  | .compA0C011100 _ _ => 0x9FC0#16
  | .compA0C011101 _ _ => 0x9FC0#16
  | .compA0C011110 _ _ => 0x9FC0#16
  | .compDPlus1 _ _ => 0x9FC0#16
  | .compA0C100000 _ _ => 0x9FC0#16
  | .compA0C100001 _ _ => 0x9FC0#16
  | .compA0C100010 _ _ => 0x9FC0#16
  | .compA0C100011 _ _ => 0x9FC0#16
  | .compA0C100100 _ _ => 0x9FC0#16
  | .compA0C100101 _ _ => 0x9FC0#16
  | .compA0C100110 _ _ => 0x9FC0#16
  | .compA0C100111 _ _ => 0x9FC0#16
  | .compA0C101000 _ _ => 0x9FC0#16
  | .compA0C101001 _ _ => 0x9FC0#16
  | .comp0 _ _ => 0x9FC0#16
  | .compA0C101011 _ _ => 0x9FC0#16
  | .compA0C101100 _ _ => 0x9FC0#16
  | .compA0C101101 _ _ => 0x9FC0#16
  | .compA0C101110 _ _ => 0x9FC0#16
  | .compA0C101111 _ _ => 0x9FC0#16
  | .compA _ _ => 0x9FC0#16
  | .compNotA _ _ => 0x9FC0#16
  | .compAMinus1 _ _ => 0x9FC0#16
  | .compNegA _ _ => 0x9FC0#16
  | .compA0C110100 _ _ => 0x9FC0#16
  | .compA0C110101 _ _ => 0x9FC0#16
  | .compA0C110110 _ _ => 0x9FC0#16
  | .compAPlus1 _ _ => 0x9FC0#16
  | .compA0C111000 _ _ => 0x9FC0#16
  | .compA0C111001 _ _ => 0x9FC0#16
  | .compNeg1 _ _ => 0x9FC0#16
  | .compA0C111011 _ _ => 0x9FC0#16
  | .compA0C111100 _ _ => 0x9FC0#16
  | .compA0C111101 _ _ => 0x9FC0#16
  | .compA0C111110 _ _ => 0x9FC0#16
  | .comp1 _ _ => 0x9FC0#16
  | .compDAndM _ _ => 0x9FC0#16
  | .compA1C000001 _ _ => 0x9FC0#16
  | .compDPlusM _ _ => 0x9FC0#16
  | .compA1C000011 _ _ => 0x9FC0#16
  | .compA1C000100 _ _ => 0x9FC0#16
  | .compA1C000101 _ _ => 0x9FC0#16
  | .compA1C000110 _ _ => 0x9FC0#16
  | .compMMinusD _ _ => 0x9FC0#16
  | .compA1C001000 _ _ => 0x9FC0#16
  | .compA1C001001 _ _ => 0x9FC0#16
  | .compA1C001010 _ _ => 0x9FC0#16
  | .compA1C001011 _ _ => 0x9FC0#16
  | .compA1C001100 _ _ => 0x9FC0#16
  | .compA1C001101 _ _ => 0x9FC0#16
  | .compA1C001110 _ _ => 0x9FC0#16
  | .compA1C001111 _ _ => 0x9FC0#16
  | .compA1C010000 _ _ => 0x9FC0#16
  | .compA1C010001 _ _ => 0x9FC0#16
  | .compA1C010010 _ _ => 0x9FC0#16
  | .compDMinusM _ _ => 0x9FC0#16
  | .compA1C010100 _ _ => 0x9FC0#16
  | .compDOrM _ _ => 0x9FC0#16
  | .compA1C010110 _ _ => 0x9FC0#16
  | .compA1C010111 _ _ => 0x9FC0#16
  | .compA1C011000 _ _ => 0x9FC0#16
  | .compA1C011001 _ _ => 0x9FC0#16
  | .compA1C011010 _ _ => 0x9FC0#16
  | .compA1C011011 _ _ => 0x9FC0#16
  | .compA1C011100 _ _ => 0x9FC0#16
  | .compA1C011101 _ _ => 0x9FC0#16
  | .compA1C011110 _ _ => 0x9FC0#16
  | .compA1C011111 _ _ => 0x9FC0#16
  | .compA1C100000 _ _ => 0x9FC0#16
  | .compA1C100001 _ _ => 0x9FC0#16
  | .compA1C100010 _ _ => 0x9FC0#16
  | .compA1C100011 _ _ => 0x9FC0#16
  | .compA1C100100 _ _ => 0x9FC0#16
  | .compA1C100101 _ _ => 0x9FC0#16
  | .compA1C100110 _ _ => 0x9FC0#16
  | .compA1C100111 _ _ => 0x9FC0#16
  | .compA1C101000 _ _ => 0x9FC0#16
  | .compA1C101001 _ _ => 0x9FC0#16
  | .compA1C101010 _ _ => 0x9FC0#16
  | .compA1C101011 _ _ => 0x9FC0#16
  | .compA1C101100 _ _ => 0x9FC0#16
  | .compA1C101101 _ _ => 0x9FC0#16
  | .compA1C101110 _ _ => 0x9FC0#16
  | .compA1C101111 _ _ => 0x9FC0#16
  | .compM _ _ => 0x9FC0#16
  | .compNotM _ _ => 0x9FC0#16
  | .compMMinus1 _ _ => 0x9FC0#16
  | .compNegM _ _ => 0x9FC0#16
  | .compA1C110100 _ _ => 0x9FC0#16
  | .compA1C110101 _ _ => 0x9FC0#16
  | .compA1C110110 _ _ => 0x9FC0#16
  | .compMPlus1 _ _ => 0x9FC0#16
  | .compA1C111000 _ _ => 0x9FC0#16
  | .compA1C111001 _ _ => 0x9FC0#16
  | .compA1C111010 _ _ => 0x9FC0#16
  | .compA1C111011 _ _ => 0x9FC0#16
  | .compA1C111100 _ _ => 0x9FC0#16
  | .compA1C111101 _ _ => 0x9FC0#16
  | .compA1C111110 _ _ => 0x9FC0#16
  | .compA1C111111 _ _ => 0x9FC0#16

/-- The instruction's word has the fixed bits of its row, whatever its operands. -/
def Statement (i : Instr) : Prop := encode i &&& rowMask i = rowMatch i

/-- The mask of a C-instruction row keeps bit 15 and the comp field. -/
theorem computeWord_and_mask (a : Bool) (c : BitVec 6) (d : Dest) (j : Jump) :
    computeWord a c d j &&& 0x9FC0#16 = 0b100#3 ++ BitVec.ofBool a ++ c ++ 0b000000#6 := by
  apply BitVec.eq_of_getLsbD_eq
  intro i hi
  have h := bit_computeWord a c d j i
  have e : BitVec.getLsbD (w := 3 + 1 + 6 + 6) (0b100#3 ++ BitVec.ofBool a ++ c ++ 0b000000#6) i =
      if i < 6 then (0b000000#6).getLsbD i
      else if i - 6 < 6 then c.getLsbD (i - 6)
      else if i - 6 - 6 < 1 then (BitVec.ofBool a).getLsbD (i - 6 - 6)
      else (0b100#3).getLsbD (i - 6 - 6 - 1) := by
    simp only [BitVec.getLsbD_append]
  refine Eq.trans ?_ e.symm
  rw [BitVec.getLsbD_and, show (computeWord a c d j).getLsbD i = _ from h]
  interval_cases i <;> simp

theorem atValue (v : Addr) : Statement (.atValue v) := by
  have h : (0b0#1 ++ v) &&& 0x8000#16 = 0x0000#16 := by
    rw [literal_eq_zext]
    ext i hi
    interval_cases i <;> simp
  exact h

theorem compDAndA (d : Dest) (j : Jump) : Statement (.compDAndA d j) :=
  computeWord_and_mask false 0b000000#6 d j

theorem compA0C000001 (d : Dest) (j : Jump) : Statement (.compA0C000001 d j) :=
  computeWord_and_mask false 0b000001#6 d j

theorem compDPlusA (d : Dest) (j : Jump) : Statement (.compDPlusA d j) :=
  computeWord_and_mask false 0b000010#6 d j

theorem compA0C000011 (d : Dest) (j : Jump) : Statement (.compA0C000011 d j) :=
  computeWord_and_mask false 0b000011#6 d j

theorem compA0C000100 (d : Dest) (j : Jump) : Statement (.compA0C000100 d j) :=
  computeWord_and_mask false 0b000100#6 d j

theorem compA0C000101 (d : Dest) (j : Jump) : Statement (.compA0C000101 d j) :=
  computeWord_and_mask false 0b000101#6 d j

theorem compA0C000110 (d : Dest) (j : Jump) : Statement (.compA0C000110 d j) :=
  computeWord_and_mask false 0b000110#6 d j

theorem compAMinusD (d : Dest) (j : Jump) : Statement (.compAMinusD d j) :=
  computeWord_and_mask false 0b000111#6 d j

theorem compA0C001000 (d : Dest) (j : Jump) : Statement (.compA0C001000 d j) :=
  computeWord_and_mask false 0b001000#6 d j

theorem compA0C001001 (d : Dest) (j : Jump) : Statement (.compA0C001001 d j) :=
  computeWord_and_mask false 0b001001#6 d j

theorem compA0C001010 (d : Dest) (j : Jump) : Statement (.compA0C001010 d j) :=
  computeWord_and_mask false 0b001010#6 d j

theorem compA0C001011 (d : Dest) (j : Jump) : Statement (.compA0C001011 d j) :=
  computeWord_and_mask false 0b001011#6 d j

theorem compD (d : Dest) (j : Jump) : Statement (.compD d j) :=
  computeWord_and_mask false 0b001100#6 d j

theorem compNotD (d : Dest) (j : Jump) : Statement (.compNotD d j) :=
  computeWord_and_mask false 0b001101#6 d j

theorem compDMinus1 (d : Dest) (j : Jump) : Statement (.compDMinus1 d j) :=
  computeWord_and_mask false 0b001110#6 d j

theorem compNegD (d : Dest) (j : Jump) : Statement (.compNegD d j) :=
  computeWord_and_mask false 0b001111#6 d j

theorem compA0C010000 (d : Dest) (j : Jump) : Statement (.compA0C010000 d j) :=
  computeWord_and_mask false 0b010000#6 d j

theorem compA0C010001 (d : Dest) (j : Jump) : Statement (.compA0C010001 d j) :=
  computeWord_and_mask false 0b010001#6 d j

theorem compA0C010010 (d : Dest) (j : Jump) : Statement (.compA0C010010 d j) :=
  computeWord_and_mask false 0b010010#6 d j

theorem compDMinusA (d : Dest) (j : Jump) : Statement (.compDMinusA d j) :=
  computeWord_and_mask false 0b010011#6 d j

theorem compA0C010100 (d : Dest) (j : Jump) : Statement (.compA0C010100 d j) :=
  computeWord_and_mask false 0b010100#6 d j

theorem compDOrA (d : Dest) (j : Jump) : Statement (.compDOrA d j) :=
  computeWord_and_mask false 0b010101#6 d j

theorem compA0C010110 (d : Dest) (j : Jump) : Statement (.compA0C010110 d j) :=
  computeWord_and_mask false 0b010110#6 d j

theorem compA0C010111 (d : Dest) (j : Jump) : Statement (.compA0C010111 d j) :=
  computeWord_and_mask false 0b010111#6 d j

theorem compA0C011000 (d : Dest) (j : Jump) : Statement (.compA0C011000 d j) :=
  computeWord_and_mask false 0b011000#6 d j

theorem compA0C011001 (d : Dest) (j : Jump) : Statement (.compA0C011001 d j) :=
  computeWord_and_mask false 0b011001#6 d j

theorem compA0C011010 (d : Dest) (j : Jump) : Statement (.compA0C011010 d j) :=
  computeWord_and_mask false 0b011010#6 d j

theorem compA0C011011 (d : Dest) (j : Jump) : Statement (.compA0C011011 d j) :=
  computeWord_and_mask false 0b011011#6 d j

theorem compA0C011100 (d : Dest) (j : Jump) : Statement (.compA0C011100 d j) :=
  computeWord_and_mask false 0b011100#6 d j

theorem compA0C011101 (d : Dest) (j : Jump) : Statement (.compA0C011101 d j) :=
  computeWord_and_mask false 0b011101#6 d j

theorem compA0C011110 (d : Dest) (j : Jump) : Statement (.compA0C011110 d j) :=
  computeWord_and_mask false 0b011110#6 d j

theorem compDPlus1 (d : Dest) (j : Jump) : Statement (.compDPlus1 d j) :=
  computeWord_and_mask false 0b011111#6 d j

theorem compA0C100000 (d : Dest) (j : Jump) : Statement (.compA0C100000 d j) :=
  computeWord_and_mask false 0b100000#6 d j

theorem compA0C100001 (d : Dest) (j : Jump) : Statement (.compA0C100001 d j) :=
  computeWord_and_mask false 0b100001#6 d j

theorem compA0C100010 (d : Dest) (j : Jump) : Statement (.compA0C100010 d j) :=
  computeWord_and_mask false 0b100010#6 d j

theorem compA0C100011 (d : Dest) (j : Jump) : Statement (.compA0C100011 d j) :=
  computeWord_and_mask false 0b100011#6 d j

theorem compA0C100100 (d : Dest) (j : Jump) : Statement (.compA0C100100 d j) :=
  computeWord_and_mask false 0b100100#6 d j

theorem compA0C100101 (d : Dest) (j : Jump) : Statement (.compA0C100101 d j) :=
  computeWord_and_mask false 0b100101#6 d j

theorem compA0C100110 (d : Dest) (j : Jump) : Statement (.compA0C100110 d j) :=
  computeWord_and_mask false 0b100110#6 d j

theorem compA0C100111 (d : Dest) (j : Jump) : Statement (.compA0C100111 d j) :=
  computeWord_and_mask false 0b100111#6 d j

theorem compA0C101000 (d : Dest) (j : Jump) : Statement (.compA0C101000 d j) :=
  computeWord_and_mask false 0b101000#6 d j

theorem compA0C101001 (d : Dest) (j : Jump) : Statement (.compA0C101001 d j) :=
  computeWord_and_mask false 0b101001#6 d j

theorem comp0 (d : Dest) (j : Jump) : Statement (.comp0 d j) :=
  computeWord_and_mask false 0b101010#6 d j

theorem compA0C101011 (d : Dest) (j : Jump) : Statement (.compA0C101011 d j) :=
  computeWord_and_mask false 0b101011#6 d j

theorem compA0C101100 (d : Dest) (j : Jump) : Statement (.compA0C101100 d j) :=
  computeWord_and_mask false 0b101100#6 d j

theorem compA0C101101 (d : Dest) (j : Jump) : Statement (.compA0C101101 d j) :=
  computeWord_and_mask false 0b101101#6 d j

theorem compA0C101110 (d : Dest) (j : Jump) : Statement (.compA0C101110 d j) :=
  computeWord_and_mask false 0b101110#6 d j

theorem compA0C101111 (d : Dest) (j : Jump) : Statement (.compA0C101111 d j) :=
  computeWord_and_mask false 0b101111#6 d j

theorem compA (d : Dest) (j : Jump) : Statement (.compA d j) :=
  computeWord_and_mask false 0b110000#6 d j

theorem compNotA (d : Dest) (j : Jump) : Statement (.compNotA d j) :=
  computeWord_and_mask false 0b110001#6 d j

theorem compAMinus1 (d : Dest) (j : Jump) : Statement (.compAMinus1 d j) :=
  computeWord_and_mask false 0b110010#6 d j

theorem compNegA (d : Dest) (j : Jump) : Statement (.compNegA d j) :=
  computeWord_and_mask false 0b110011#6 d j

theorem compA0C110100 (d : Dest) (j : Jump) : Statement (.compA0C110100 d j) :=
  computeWord_and_mask false 0b110100#6 d j

theorem compA0C110101 (d : Dest) (j : Jump) : Statement (.compA0C110101 d j) :=
  computeWord_and_mask false 0b110101#6 d j

theorem compA0C110110 (d : Dest) (j : Jump) : Statement (.compA0C110110 d j) :=
  computeWord_and_mask false 0b110110#6 d j

theorem compAPlus1 (d : Dest) (j : Jump) : Statement (.compAPlus1 d j) :=
  computeWord_and_mask false 0b110111#6 d j

theorem compA0C111000 (d : Dest) (j : Jump) : Statement (.compA0C111000 d j) :=
  computeWord_and_mask false 0b111000#6 d j

theorem compA0C111001 (d : Dest) (j : Jump) : Statement (.compA0C111001 d j) :=
  computeWord_and_mask false 0b111001#6 d j

theorem compNeg1 (d : Dest) (j : Jump) : Statement (.compNeg1 d j) :=
  computeWord_and_mask false 0b111010#6 d j

theorem compA0C111011 (d : Dest) (j : Jump) : Statement (.compA0C111011 d j) :=
  computeWord_and_mask false 0b111011#6 d j

theorem compA0C111100 (d : Dest) (j : Jump) : Statement (.compA0C111100 d j) :=
  computeWord_and_mask false 0b111100#6 d j

theorem compA0C111101 (d : Dest) (j : Jump) : Statement (.compA0C111101 d j) :=
  computeWord_and_mask false 0b111101#6 d j

theorem compA0C111110 (d : Dest) (j : Jump) : Statement (.compA0C111110 d j) :=
  computeWord_and_mask false 0b111110#6 d j

theorem comp1 (d : Dest) (j : Jump) : Statement (.comp1 d j) :=
  computeWord_and_mask false 0b111111#6 d j

theorem compDAndM (d : Dest) (j : Jump) : Statement (.compDAndM d j) :=
  computeWord_and_mask true 0b000000#6 d j

theorem compA1C000001 (d : Dest) (j : Jump) : Statement (.compA1C000001 d j) :=
  computeWord_and_mask true 0b000001#6 d j

theorem compDPlusM (d : Dest) (j : Jump) : Statement (.compDPlusM d j) :=
  computeWord_and_mask true 0b000010#6 d j

theorem compA1C000011 (d : Dest) (j : Jump) : Statement (.compA1C000011 d j) :=
  computeWord_and_mask true 0b000011#6 d j

theorem compA1C000100 (d : Dest) (j : Jump) : Statement (.compA1C000100 d j) :=
  computeWord_and_mask true 0b000100#6 d j

theorem compA1C000101 (d : Dest) (j : Jump) : Statement (.compA1C000101 d j) :=
  computeWord_and_mask true 0b000101#6 d j

theorem compA1C000110 (d : Dest) (j : Jump) : Statement (.compA1C000110 d j) :=
  computeWord_and_mask true 0b000110#6 d j

theorem compMMinusD (d : Dest) (j : Jump) : Statement (.compMMinusD d j) :=
  computeWord_and_mask true 0b000111#6 d j

theorem compA1C001000 (d : Dest) (j : Jump) : Statement (.compA1C001000 d j) :=
  computeWord_and_mask true 0b001000#6 d j

theorem compA1C001001 (d : Dest) (j : Jump) : Statement (.compA1C001001 d j) :=
  computeWord_and_mask true 0b001001#6 d j

theorem compA1C001010 (d : Dest) (j : Jump) : Statement (.compA1C001010 d j) :=
  computeWord_and_mask true 0b001010#6 d j

theorem compA1C001011 (d : Dest) (j : Jump) : Statement (.compA1C001011 d j) :=
  computeWord_and_mask true 0b001011#6 d j

theorem compA1C001100 (d : Dest) (j : Jump) : Statement (.compA1C001100 d j) :=
  computeWord_and_mask true 0b001100#6 d j

theorem compA1C001101 (d : Dest) (j : Jump) : Statement (.compA1C001101 d j) :=
  computeWord_and_mask true 0b001101#6 d j

theorem compA1C001110 (d : Dest) (j : Jump) : Statement (.compA1C001110 d j) :=
  computeWord_and_mask true 0b001110#6 d j

theorem compA1C001111 (d : Dest) (j : Jump) : Statement (.compA1C001111 d j) :=
  computeWord_and_mask true 0b001111#6 d j

theorem compA1C010000 (d : Dest) (j : Jump) : Statement (.compA1C010000 d j) :=
  computeWord_and_mask true 0b010000#6 d j

theorem compA1C010001 (d : Dest) (j : Jump) : Statement (.compA1C010001 d j) :=
  computeWord_and_mask true 0b010001#6 d j

theorem compA1C010010 (d : Dest) (j : Jump) : Statement (.compA1C010010 d j) :=
  computeWord_and_mask true 0b010010#6 d j

theorem compDMinusM (d : Dest) (j : Jump) : Statement (.compDMinusM d j) :=
  computeWord_and_mask true 0b010011#6 d j

theorem compA1C010100 (d : Dest) (j : Jump) : Statement (.compA1C010100 d j) :=
  computeWord_and_mask true 0b010100#6 d j

theorem compDOrM (d : Dest) (j : Jump) : Statement (.compDOrM d j) :=
  computeWord_and_mask true 0b010101#6 d j

theorem compA1C010110 (d : Dest) (j : Jump) : Statement (.compA1C010110 d j) :=
  computeWord_and_mask true 0b010110#6 d j

theorem compA1C010111 (d : Dest) (j : Jump) : Statement (.compA1C010111 d j) :=
  computeWord_and_mask true 0b010111#6 d j

theorem compA1C011000 (d : Dest) (j : Jump) : Statement (.compA1C011000 d j) :=
  computeWord_and_mask true 0b011000#6 d j

theorem compA1C011001 (d : Dest) (j : Jump) : Statement (.compA1C011001 d j) :=
  computeWord_and_mask true 0b011001#6 d j

theorem compA1C011010 (d : Dest) (j : Jump) : Statement (.compA1C011010 d j) :=
  computeWord_and_mask true 0b011010#6 d j

theorem compA1C011011 (d : Dest) (j : Jump) : Statement (.compA1C011011 d j) :=
  computeWord_and_mask true 0b011011#6 d j

theorem compA1C011100 (d : Dest) (j : Jump) : Statement (.compA1C011100 d j) :=
  computeWord_and_mask true 0b011100#6 d j

theorem compA1C011101 (d : Dest) (j : Jump) : Statement (.compA1C011101 d j) :=
  computeWord_and_mask true 0b011101#6 d j

theorem compA1C011110 (d : Dest) (j : Jump) : Statement (.compA1C011110 d j) :=
  computeWord_and_mask true 0b011110#6 d j

theorem compA1C011111 (d : Dest) (j : Jump) : Statement (.compA1C011111 d j) :=
  computeWord_and_mask true 0b011111#6 d j

theorem compA1C100000 (d : Dest) (j : Jump) : Statement (.compA1C100000 d j) :=
  computeWord_and_mask true 0b100000#6 d j

theorem compA1C100001 (d : Dest) (j : Jump) : Statement (.compA1C100001 d j) :=
  computeWord_and_mask true 0b100001#6 d j

theorem compA1C100010 (d : Dest) (j : Jump) : Statement (.compA1C100010 d j) :=
  computeWord_and_mask true 0b100010#6 d j

theorem compA1C100011 (d : Dest) (j : Jump) : Statement (.compA1C100011 d j) :=
  computeWord_and_mask true 0b100011#6 d j

theorem compA1C100100 (d : Dest) (j : Jump) : Statement (.compA1C100100 d j) :=
  computeWord_and_mask true 0b100100#6 d j

theorem compA1C100101 (d : Dest) (j : Jump) : Statement (.compA1C100101 d j) :=
  computeWord_and_mask true 0b100101#6 d j

theorem compA1C100110 (d : Dest) (j : Jump) : Statement (.compA1C100110 d j) :=
  computeWord_and_mask true 0b100110#6 d j

theorem compA1C100111 (d : Dest) (j : Jump) : Statement (.compA1C100111 d j) :=
  computeWord_and_mask true 0b100111#6 d j

theorem compA1C101000 (d : Dest) (j : Jump) : Statement (.compA1C101000 d j) :=
  computeWord_and_mask true 0b101000#6 d j

theorem compA1C101001 (d : Dest) (j : Jump) : Statement (.compA1C101001 d j) :=
  computeWord_and_mask true 0b101001#6 d j

theorem compA1C101010 (d : Dest) (j : Jump) : Statement (.compA1C101010 d j) :=
  computeWord_and_mask true 0b101010#6 d j

theorem compA1C101011 (d : Dest) (j : Jump) : Statement (.compA1C101011 d j) :=
  computeWord_and_mask true 0b101011#6 d j

theorem compA1C101100 (d : Dest) (j : Jump) : Statement (.compA1C101100 d j) :=
  computeWord_and_mask true 0b101100#6 d j

theorem compA1C101101 (d : Dest) (j : Jump) : Statement (.compA1C101101 d j) :=
  computeWord_and_mask true 0b101101#6 d j

theorem compA1C101110 (d : Dest) (j : Jump) : Statement (.compA1C101110 d j) :=
  computeWord_and_mask true 0b101110#6 d j

theorem compA1C101111 (d : Dest) (j : Jump) : Statement (.compA1C101111 d j) :=
  computeWord_and_mask true 0b101111#6 d j

theorem compM (d : Dest) (j : Jump) : Statement (.compM d j) :=
  computeWord_and_mask true 0b110000#6 d j

theorem compNotM (d : Dest) (j : Jump) : Statement (.compNotM d j) :=
  computeWord_and_mask true 0b110001#6 d j

theorem compMMinus1 (d : Dest) (j : Jump) : Statement (.compMMinus1 d j) :=
  computeWord_and_mask true 0b110010#6 d j

theorem compNegM (d : Dest) (j : Jump) : Statement (.compNegM d j) :=
  computeWord_and_mask true 0b110011#6 d j

theorem compA1C110100 (d : Dest) (j : Jump) : Statement (.compA1C110100 d j) :=
  computeWord_and_mask true 0b110100#6 d j

theorem compA1C110101 (d : Dest) (j : Jump) : Statement (.compA1C110101 d j) :=
  computeWord_and_mask true 0b110101#6 d j

theorem compA1C110110 (d : Dest) (j : Jump) : Statement (.compA1C110110 d j) :=
  computeWord_and_mask true 0b110110#6 d j

theorem compMPlus1 (d : Dest) (j : Jump) : Statement (.compMPlus1 d j) :=
  computeWord_and_mask true 0b110111#6 d j

theorem compA1C111000 (d : Dest) (j : Jump) : Statement (.compA1C111000 d j) :=
  computeWord_and_mask true 0b111000#6 d j

theorem compA1C111001 (d : Dest) (j : Jump) : Statement (.compA1C111001 d j) :=
  computeWord_and_mask true 0b111001#6 d j

theorem compA1C111010 (d : Dest) (j : Jump) : Statement (.compA1C111010 d j) :=
  computeWord_and_mask true 0b111010#6 d j

theorem compA1C111011 (d : Dest) (j : Jump) : Statement (.compA1C111011 d j) :=
  computeWord_and_mask true 0b111011#6 d j

theorem compA1C111100 (d : Dest) (j : Jump) : Statement (.compA1C111100 d j) :=
  computeWord_and_mask true 0b111100#6 d j

theorem compA1C111101 (d : Dest) (j : Jump) : Statement (.compA1C111101 d j) :=
  computeWord_and_mask true 0b111101#6 d j

theorem compA1C111110 (d : Dest) (j : Jump) : Statement (.compA1C111110 d j) :=
  computeWord_and_mask true 0b111110#6 d j

theorem compA1C111111 (d : Dest) (j : Jump) : Statement (.compA1C111111 d j) :=
  computeWord_and_mask true 0b111111#6 d j

end Sys2Proof.Laws.TableRow
end

