-- ==== Sys2Proof/Tests/Slice0.lean ====
section
/-! SUPPORT. Tests of the model against the examples and vectors of spec/ (spec/95_test_vectors.md and the rules' own
examples), and a witness for the hypotheses of every statement that has some. Expected values are the spec's. -/

namespace Sys2Proof.Tests

open Sys2Proof Sys2Proof.Machine Sys2Proof.Safety

/-! Helpers: small states and projections of an outcome. -/

/-- The next state of an outcome, if it has one. -/
def nextOf : Host.Outcome State Fault Refusal → Option State
  | .next t => some t
  | .fault _ => none
  | .refused _ => none

/-- A state with the given A, D, PC, the word `m` in data memory at A[14:0], and this cycle's reset input. -/
def small (a d : Word) (pc : Addr) (m : Word := 0x0000#16) (reset : Bool := false) : State :=
  { regs := { a := a, d := d, pc := pc }, ram := Memory.write [] (trunc15 a) m, rom := [], devices := [],
    resetInputs := [reset], cycle := 0, outputs := none }

/-- The state after the word w executes. -/
def after (w : Word) (s : State) : Option State := nextOf (exec (decode w) s)

/-- The registers after the word w executes. -/
def regsAfter (w : Word) (s : State) : Option RegisterState := (after w s).map (·.regs)

/-- The ports of the cycle that executes w; `outM` only where it is valid. -/
def portsOf (w : Word) (s : State) : Option (Option Word × Addr × Addr) :=
  ((after w s).bind (·.outputs)).map fun p => (if p.writeM then some p.outM else none, p.addressM, p.pc)

/-- The data word at p after the word w executes. -/
def wordAfter (w : Word) (s : State) (p : Addr) : Option Word := (after w s).map (·.dataWord p)

/-! The checks of WellFormed refuse an ill-formed term each (rule R206, decisions D8 and D9). -/

theorem test_fitsWord_refuses : fitsWord 65536 = false ∧ fitsWord 65535 = true := by decide
theorem test_fitsAddr_refuses : fitsAddr 32768 = false ∧ fitsAddr 32767 = true := by decide
theorem test_fitsBit_refuses : fitsBit 2 = false ∧ fitsBit 1 = true := by decide
theorem test_rawInputs_refuses_instruction : inputsOfRaw? { instruction := 65536, inM := 0, reset := 0 } = none := by
  decide
theorem test_rawInputs_refuses_inM : inputsOfRaw? { instruction := 0, inM := 65536, reset := 0 } = none := by decide
theorem test_rawInputs_refuses_reset : inputsOfRaw? { instruction := 0, inM := 0, reset := 2 } = none := by decide
theorem test_image_refuses_wide_word : imageOfNats? [100, 65536] = none := by decide
theorem test_image_accepts : imageOfNats? [0, 0xFC10] = some [0x0000#16, 0xFC10#16] := by decide
theorem test_image_refuses_long_image : imageFits (List.replicate 32769 0) = false := by
  have h : decide ((List.replicate 32769 0).length ≤ 2 ^ 15) = false := by
    rw [List.length_replicate]; decide
  rw [imageFits, h, Bool.and_false]
theorem test_romImage : romImage? [0x0064#16, 0xE308#16] = some [(0, 0x0064#16), (1, 0xE308#16)] := by decide
theorem test_decodeTableWord_refuses : decodeTableWord 16 65536 = none ∧ decodeTableWord 17 0 = none := by decide

/-! Every row decodes: words written bit by bit from the encoding column of spec/opcode_table.json, with varying dest, jump and
ignored bits. -/

theorem test_decode_atValue : decode 0x0000#16 = .atValue 0#15 ∧ decode 0x0007#16 = .atValue 7#15 ∧
    decode 0x003F#16 = .atValue 63#15 ∧ decode 0x0064#16 = .atValue 100#15 ∧ decode 0x7FFF#16 = .atValue 32767#15 := by
  decide

theorem test_decode_a0_c000000_to_c000111 :
    decode 0b1000000000001000#16 = .compDAndA ⟨false, false, true⟩ .never ∧
    decode 0b1010000001100001#16 = .compA0C000001 ⟨true, false, false⟩ .jgt ∧
    decode 0b1110000010111010#16 = .compDPlusA ⟨true, true, true⟩ .jeq ∧
    decode 0b1000000011010011#16 = .compA0C000011 ⟨false, true, false⟩ .jge ∧
    decode 0b1100000100101100#16 = .compA0C000100 ⟨true, false, true⟩ .jlt ∧
    decode 0b1110000101000101#16 = .compA0C000101 ⟨false, false, false⟩ .jne ∧
    decode 0b1010000110011110#16 = .compA0C000110 ⟨false, true, true⟩ .jle ∧
    decode 0b1100000111110111#16 = .compAMinusD ⟨true, true, false⟩ .jmp := by
  decide

theorem test_decode_a0_c001000_to_c001111 :
    decode 0b1000001000001001#16 = .compA0C001000 ⟨false, false, true⟩ .jgt ∧
    decode 0b1010001001100010#16 = .compA0C001001 ⟨true, false, false⟩ .jeq ∧
    decode 0b1110001010111011#16 = .compA0C001010 ⟨true, true, true⟩ .jge ∧
    decode 0b1000001011010100#16 = .compA0C001011 ⟨false, true, false⟩ .jlt ∧
    decode 0b1100001100101101#16 = .compD ⟨true, false, true⟩ .jne ∧
    decode 0b1110001101000110#16 = .compNotD ⟨false, false, false⟩ .jle ∧
    decode 0b1010001110011111#16 = .compDMinus1 ⟨false, true, true⟩ .jmp ∧
    decode 0b1100001111110000#16 = .compNegD ⟨true, true, false⟩ .never := by
  decide

theorem test_decode_a0_c010000_to_c010111 :
    decode 0b1000010000001010#16 = .compA0C010000 ⟨false, false, true⟩ .jeq ∧
    decode 0b1010010001100011#16 = .compA0C010001 ⟨true, false, false⟩ .jge ∧
    decode 0b1110010010111100#16 = .compA0C010010 ⟨true, true, true⟩ .jlt ∧
    decode 0b1000010011010101#16 = .compDMinusA ⟨false, true, false⟩ .jne ∧
    decode 0b1100010100101110#16 = .compA0C010100 ⟨true, false, true⟩ .jle ∧
    decode 0b1110010101000111#16 = .compDOrA ⟨false, false, false⟩ .jmp ∧
    decode 0b1010010110011000#16 = .compA0C010110 ⟨false, true, true⟩ .never ∧
    decode 0b1100010111110001#16 = .compA0C010111 ⟨true, true, false⟩ .jgt := by
  decide

theorem test_decode_a0_c011000_to_c011111 :
    decode 0b1000011000001011#16 = .compA0C011000 ⟨false, false, true⟩ .jge ∧
    decode 0b1010011001100100#16 = .compA0C011001 ⟨true, false, false⟩ .jlt ∧
    decode 0b1110011010111101#16 = .compA0C011010 ⟨true, true, true⟩ .jne ∧
    decode 0b1000011011010110#16 = .compA0C011011 ⟨false, true, false⟩ .jle ∧
    decode 0b1100011100101111#16 = .compA0C011100 ⟨true, false, true⟩ .jmp ∧
    decode 0b1110011101000000#16 = .compA0C011101 ⟨false, false, false⟩ .never ∧
    decode 0b1010011110011001#16 = .compA0C011110 ⟨false, true, true⟩ .jgt ∧
    decode 0b1100011111110010#16 = .compDPlus1 ⟨true, true, false⟩ .jeq := by
  decide

theorem test_decode_a0_c100000_to_c100111 :
    decode 0b1000100000001100#16 = .compA0C100000 ⟨false, false, true⟩ .jlt ∧
    decode 0b1010100001100101#16 = .compA0C100001 ⟨true, false, false⟩ .jne ∧
    decode 0b1110100010111110#16 = .compA0C100010 ⟨true, true, true⟩ .jle ∧
    decode 0b1000100011010111#16 = .compA0C100011 ⟨false, true, false⟩ .jmp ∧
    decode 0b1100100100101000#16 = .compA0C100100 ⟨true, false, true⟩ .never ∧
    decode 0b1110100101000001#16 = .compA0C100101 ⟨false, false, false⟩ .jgt ∧
    decode 0b1010100110011010#16 = .compA0C100110 ⟨false, true, true⟩ .jeq ∧
    decode 0b1100100111110011#16 = .compA0C100111 ⟨true, true, false⟩ .jge := by
  decide

theorem test_decode_a0_c101000_to_c101111 :
    decode 0b1000101000001101#16 = .compA0C101000 ⟨false, false, true⟩ .jne ∧
    decode 0b1010101001100110#16 = .compA0C101001 ⟨true, false, false⟩ .jle ∧
    decode 0b1110101010111111#16 = .comp0 ⟨true, true, true⟩ .jmp ∧
    decode 0b1000101011010000#16 = .compA0C101011 ⟨false, true, false⟩ .never ∧
    decode 0b1100101100101001#16 = .compA0C101100 ⟨true, false, true⟩ .jgt ∧
    decode 0b1110101101000010#16 = .compA0C101101 ⟨false, false, false⟩ .jeq ∧
    decode 0b1010101110011011#16 = .compA0C101110 ⟨false, true, true⟩ .jge ∧
    decode 0b1100101111110100#16 = .compA0C101111 ⟨true, true, false⟩ .jlt := by
  decide

theorem test_decode_a0_c110000_to_c110111 :
    decode 0b1000110000001110#16 = .compA ⟨false, false, true⟩ .jle ∧
    decode 0b1010110001100111#16 = .compNotA ⟨true, false, false⟩ .jmp ∧
    decode 0b1110110010111000#16 = .compAMinus1 ⟨true, true, true⟩ .never ∧
    decode 0b1000110011010001#16 = .compNegA ⟨false, true, false⟩ .jgt ∧
    decode 0b1100110100101010#16 = .compA0C110100 ⟨true, false, true⟩ .jeq ∧
    decode 0b1110110101000011#16 = .compA0C110101 ⟨false, false, false⟩ .jge ∧
    decode 0b1010110110011100#16 = .compA0C110110 ⟨false, true, true⟩ .jlt ∧
    decode 0b1100110111110101#16 = .compAPlus1 ⟨true, true, false⟩ .jne := by
  decide

theorem test_decode_a0_c111000_to_c111111 :
    decode 0b1000111000001111#16 = .compA0C111000 ⟨false, false, true⟩ .jmp ∧
    decode 0b1010111001100000#16 = .compA0C111001 ⟨true, false, false⟩ .never ∧
    decode 0b1110111010111001#16 = .compNeg1 ⟨true, true, true⟩ .jgt ∧
    decode 0b1000111011010010#16 = .compA0C111011 ⟨false, true, false⟩ .jeq ∧
    decode 0b1100111100101011#16 = .compA0C111100 ⟨true, false, true⟩ .jge ∧
    decode 0b1110111101000100#16 = .compA0C111101 ⟨false, false, false⟩ .jlt ∧
    decode 0b1010111110011101#16 = .compA0C111110 ⟨false, true, true⟩ .jne ∧
    decode 0b1100111111110110#16 = .comp1 ⟨true, true, false⟩ .jle := by
  decide

theorem test_decode_a1_c000000_to_c000111 :
    decode 0b1001000000010001#16 = .compDAndM ⟨false, true, false⟩ .jgt ∧
    decode 0b1011000001101010#16 = .compA1C000001 ⟨true, false, true⟩ .jeq ∧
    decode 0b1111000010000011#16 = .compDPlusM ⟨false, false, false⟩ .jge ∧
    decode 0b1001000011011100#16 = .compA1C000011 ⟨false, true, true⟩ .jlt ∧
    decode 0b1101000100110101#16 = .compA1C000100 ⟨true, true, false⟩ .jne ∧
    decode 0b1111000101001110#16 = .compA1C000101 ⟨false, false, true⟩ .jle ∧
    decode 0b1011000110100111#16 = .compA1C000110 ⟨true, false, false⟩ .jmp ∧
    decode 0b1101000111111000#16 = .compMMinusD ⟨true, true, true⟩ .never := by
  decide

theorem test_decode_a1_c001000_to_c001111 :
    decode 0b1001001000010010#16 = .compA1C001000 ⟨false, true, false⟩ .jeq ∧
    decode 0b1011001001101011#16 = .compA1C001001 ⟨true, false, true⟩ .jge ∧
    decode 0b1111001010000100#16 = .compA1C001010 ⟨false, false, false⟩ .jlt ∧
    decode 0b1001001011011101#16 = .compA1C001011 ⟨false, true, true⟩ .jne ∧
    decode 0b1101001100110110#16 = .compA1C001100 ⟨true, true, false⟩ .jle ∧
    decode 0b1111001101001111#16 = .compA1C001101 ⟨false, false, true⟩ .jmp ∧
    decode 0b1011001110100000#16 = .compA1C001110 ⟨true, false, false⟩ .never ∧
    decode 0b1101001111111001#16 = .compA1C001111 ⟨true, true, true⟩ .jgt := by
  decide

theorem test_decode_a1_c010000_to_c010111 :
    decode 0b1001010000010011#16 = .compA1C010000 ⟨false, true, false⟩ .jge ∧
    decode 0b1011010001101100#16 = .compA1C010001 ⟨true, false, true⟩ .jlt ∧
    decode 0b1111010010000101#16 = .compA1C010010 ⟨false, false, false⟩ .jne ∧
    decode 0b1001010011011110#16 = .compDMinusM ⟨false, true, true⟩ .jle ∧
    decode 0b1101010100110111#16 = .compA1C010100 ⟨true, true, false⟩ .jmp ∧
    decode 0b1111010101001000#16 = .compDOrM ⟨false, false, true⟩ .never ∧
    decode 0b1011010110100001#16 = .compA1C010110 ⟨true, false, false⟩ .jgt ∧
    decode 0b1101010111111010#16 = .compA1C010111 ⟨true, true, true⟩ .jeq := by
  decide

theorem test_decode_a1_c011000_to_c011111 :
    decode 0b1001011000010100#16 = .compA1C011000 ⟨false, true, false⟩ .jlt ∧
    decode 0b1011011001101101#16 = .compA1C011001 ⟨true, false, true⟩ .jne ∧
    decode 0b1111011010000110#16 = .compA1C011010 ⟨false, false, false⟩ .jle ∧
    decode 0b1001011011011111#16 = .compA1C011011 ⟨false, true, true⟩ .jmp ∧
    decode 0b1101011100110000#16 = .compA1C011100 ⟨true, true, false⟩ .never ∧
    decode 0b1111011101001001#16 = .compA1C011101 ⟨false, false, true⟩ .jgt ∧
    decode 0b1011011110100010#16 = .compA1C011110 ⟨true, false, false⟩ .jeq ∧
    decode 0b1101011111111011#16 = .compA1C011111 ⟨true, true, true⟩ .jge := by
  decide

theorem test_decode_a1_c100000_to_c100111 :
    decode 0b1001100000010101#16 = .compA1C100000 ⟨false, true, false⟩ .jne ∧
    decode 0b1011100001101110#16 = .compA1C100001 ⟨true, false, true⟩ .jle ∧
    decode 0b1111100010000111#16 = .compA1C100010 ⟨false, false, false⟩ .jmp ∧
    decode 0b1001100011011000#16 = .compA1C100011 ⟨false, true, true⟩ .never ∧
    decode 0b1101100100110001#16 = .compA1C100100 ⟨true, true, false⟩ .jgt ∧
    decode 0b1111100101001010#16 = .compA1C100101 ⟨false, false, true⟩ .jeq ∧
    decode 0b1011100110100011#16 = .compA1C100110 ⟨true, false, false⟩ .jge ∧
    decode 0b1101100111111100#16 = .compA1C100111 ⟨true, true, true⟩ .jlt := by
  decide

theorem test_decode_a1_c101000_to_c101111 :
    decode 0b1001101000010110#16 = .compA1C101000 ⟨false, true, false⟩ .jle ∧
    decode 0b1011101001101111#16 = .compA1C101001 ⟨true, false, true⟩ .jmp ∧
    decode 0b1111101010000000#16 = .compA1C101010 ⟨false, false, false⟩ .never ∧
    decode 0b1001101011011001#16 = .compA1C101011 ⟨false, true, true⟩ .jgt ∧
    decode 0b1101101100110010#16 = .compA1C101100 ⟨true, true, false⟩ .jeq ∧
    decode 0b1111101101001011#16 = .compA1C101101 ⟨false, false, true⟩ .jge ∧
    decode 0b1011101110100100#16 = .compA1C101110 ⟨true, false, false⟩ .jlt ∧
    decode 0b1101101111111101#16 = .compA1C101111 ⟨true, true, true⟩ .jne := by
  decide

theorem test_decode_a1_c110000_to_c110111 :
    decode 0b1001110000010111#16 = .compM ⟨false, true, false⟩ .jmp ∧
    decode 0b1011110001101000#16 = .compNotM ⟨true, false, true⟩ .never ∧
    decode 0b1111110010000001#16 = .compMMinus1 ⟨false, false, false⟩ .jgt ∧
    decode 0b1001110011011010#16 = .compNegM ⟨false, true, true⟩ .jeq ∧
    decode 0b1101110100110011#16 = .compA1C110100 ⟨true, true, false⟩ .jge ∧
    decode 0b1111110101001100#16 = .compA1C110101 ⟨false, false, true⟩ .jlt ∧
    decode 0b1011110110100101#16 = .compA1C110110 ⟨true, false, false⟩ .jne ∧
    decode 0b1101110111111110#16 = .compMPlus1 ⟨true, true, true⟩ .jle := by
  decide

theorem test_decode_a1_c111000_to_c111111 :
    decode 0b1001111000010000#16 = .compA1C111000 ⟨false, true, false⟩ .never ∧
    decode 0b1011111001101001#16 = .compA1C111001 ⟨true, false, true⟩ .jgt ∧
    decode 0b1111111010000010#16 = .compA1C111010 ⟨false, false, false⟩ .jeq ∧
    decode 0b1001111011011011#16 = .compA1C111011 ⟨false, true, true⟩ .jge ∧
    decode 0b1101111100110100#16 = .compA1C111100 ⟨true, true, false⟩ .jlt ∧
    decode 0b1111111101001101#16 = .compA1C111101 ⟨false, false, true⟩ .jne ∧
    decode 0b1011111110100110#16 = .compA1C111110 ⟨true, false, false⟩ .jle ∧
    decode 0b1101111111111111#16 = .compA1C111111 ⟨true, true, true⟩ .jmp := by
  decide

/-- Decoder vectors, spec/95_test_vectors.md section 4. -/
theorem test_signals_vectors_1 :
    signals 0x0000#16 = ⟨false, false, controlOf 0b000000#6, true, false, false, .never⟩ ∧
    signals 0x0064#16 = ⟨false, false, controlOf 0b000001#6, true, false, false, .jlt⟩ ∧
    signals 0x7FFF#16 = ⟨false, true, controlOf 0b111111#6, true, false, false, .jmp⟩ ∧
    signals 0x003F#16 = ⟨false, false, controlOf 0b000000#6, true, false, false, .jmp⟩ ∧
    signals 0x0007#16 = ⟨false, false, controlOf 0b000000#6, true, false, false, .jmp⟩ ∧
    signals 0xE308#16 = ⟨true, false, controlOf 0b001100#6, false, false, true, .never⟩ ∧
    signals 0x8308#16 = ⟨true, false, controlOf 0b001100#6, false, false, true, .never⟩ ∧
    signals 0xA308#16 = ⟨true, false, controlOf 0b001100#6, false, false, true, .never⟩ := by
  decide

/-- Decoder vectors, spec/95_test_vectors.md section 4. -/
theorem test_signals_vectors_2 :
    signals 0xC308#16 = ⟨true, false, controlOf 0b001100#6, false, false, true, .never⟩ ∧
    signals 0xFDD8#16 = ⟨true, true, controlOf 0b110111#6, false, true, true, .never⟩ ∧
    signals 0xEA87#16 = ⟨true, false, controlOf 0b101010#6, false, false, false, .jmp⟩ ∧
    signals 0xEEB8#16 = ⟨true, false, controlOf 0b111010#6, true, true, true, .never⟩ ∧
    signals 0xE7D0#16 = ⟨true, false, controlOf 0b011111#6, false, true, false, .never⟩ ∧
    signals 0xFFFF#16 = ⟨true, true, controlOf 0b111111#6, true, true, true, .jmp⟩ ∧
    signals 0x8000#16 = ⟨true, false, controlOf 0b000000#6, false, false, false, .never⟩ := by
  decide

/-- The words the rules' examples give (spec/40_alu.md to spec/45_compute_instruction.md). -/
theorem test_encode_rule_examples_1 :
    encode (.comp0 ⟨false, true, false⟩ .never) = 0xEA90#16 ∧
    encode (.comp1 ⟨false, true, false⟩ .never) = 0xEFD0#16 ∧
    encode (.compNeg1 ⟨false, true, false⟩ .never) = 0xEE90#16 ∧
    encode (.compD ⟨false, true, false⟩ .never) = 0xE310#16 ∧
    encode (.compA ⟨false, true, false⟩ .never) = 0xEC10#16 ∧
    encode (.compM ⟨false, true, false⟩ .never) = 0xFC10#16 ∧
    encode (.compNotD ⟨false, true, false⟩ .never) = 0xE350#16 ∧
    encode (.compNotA ⟨false, true, false⟩ .never) = 0xEC50#16 ∧
    encode (.compNotM ⟨false, true, false⟩ .never) = 0xFC50#16 ∧
    encode (.compNegD ⟨false, true, false⟩ .never) = 0xE3D0#16 ∧
    encode (.compNegA ⟨false, true, false⟩ .never) = 0xECD0#16 ∧
    encode (.compNegM ⟨false, true, false⟩ .never) = 0xFCD0#16 ∧
    encode (.compDPlus1 ⟨false, true, false⟩ .never) = 0xE7D0#16 ∧
    encode (.compAPlus1 ⟨false, true, false⟩ .never) = 0xEDD0#16 ∧
    encode (.compMPlus1 ⟨false, true, false⟩ .never) = 0xFDD0#16 ∧
    encode (.compDMinus1 ⟨false, true, false⟩ .never) = 0xE390#16 := by
  decide

/-- The words the rules' examples give (spec/40_alu.md to spec/45_compute_instruction.md). -/
theorem test_encode_rule_examples_2 :
    encode (.compAMinus1 ⟨false, true, false⟩ .never) = 0xEC90#16 ∧
    encode (.compMMinus1 ⟨false, true, false⟩ .never) = 0xFC90#16 ∧
    encode (.compDPlusA ⟨false, true, false⟩ .never) = 0xE090#16 ∧
    encode (.compDPlusM ⟨false, true, false⟩ .never) = 0xF090#16 ∧
    encode (.compDMinusA ⟨false, true, false⟩ .never) = 0xE4D0#16 ∧
    encode (.compDMinusM ⟨false, true, false⟩ .never) = 0xF4D0#16 ∧
    encode (.compAMinusD ⟨false, true, false⟩ .never) = 0xE1D0#16 ∧
    encode (.compMMinusD ⟨false, true, false⟩ .never) = 0xF1D0#16 ∧
    encode (.compDAndA ⟨false, true, false⟩ .never) = 0xE010#16 ∧
    encode (.compDAndM ⟨false, true, false⟩ .never) = 0xF010#16 ∧
    encode (.compDOrA ⟨false, true, false⟩ .never) = 0xE550#16 ∧
    encode (.compDOrM ⟨false, true, false⟩ .never) = 0xF550#16 ∧
    encode (.compD ⟨false, false, false⟩ .jgt) = 0xE301#16 ∧
    encode (.compD ⟨false, false, false⟩ .jeq) = 0xE302#16 ∧
    encode (.compD ⟨false, false, false⟩ .jge) = 0xE303#16 ∧
    encode (.compD ⟨false, false, false⟩ .jlt) = 0xE304#16 := by
  decide

/-- The words the rules' examples give (spec/40_alu.md to spec/45_compute_instruction.md). -/
theorem test_encode_rule_examples_3 :
    encode (.compD ⟨false, false, false⟩ .jne) = 0xE305#16 ∧
    encode (.compD ⟨false, false, false⟩ .jle) = 0xE306#16 ∧
    encode (.comp0 ⟨false, false, false⟩ .jmp) = 0xEA87#16 ∧
    encode (.compD ⟨false, false, true⟩ .never) = 0xE308#16 ∧
    encode (.compMPlus1 ⟨false, true, true⟩ .never) = 0xFDD8#16 ∧
    encode (.compAMinus1 ⟨true, false, false⟩ .never) = 0xECA0#16 ∧
    encode (.compMPlus1 ⟨true, false, true⟩ .never) = 0xFDE8#16 ∧
    encode (.compDPlusA ⟨true, true, false⟩ .never) = 0xE0B0#16 ∧
    encode (.compNeg1 ⟨true, true, true⟩ .never) = 0xEEB8#16 ∧
    encode (.compDMinusA ⟨false, true, false⟩ .jgt) = 0xE4D1#16 := by
  decide

/-- The ALU gives `out zr ng` on x and y. -/
def aluIs (c : BitVec 6) (x y out : Word) (z n : Bool) : Bool :=
  alu x y (controlOf c) == out && zr out == z && ng out == n

/-- ALU vectors of the canonical functions, spec/95_test_vectors.md section 2. -/
theorem test_alu_canonical_1 :
    (aluIs 0b101010#6 0x0000#16 0x0000#16 0x0000#16 true false && aluIs 0b101010#6 0xFFFF#16 0xFFFF#16 0x0000#16 true false && aluIs 0b101010#6 0x7FFF#16 0x0001#16 0x0000#16 true false &&
      aluIs 0b101010#6 0x8000#16 0xFFFF#16 0x0000#16 true false && aluIs 0b101010#6 0x7FFF#16 0x8000#16 0x0000#16 true false && aluIs 0b101010#6 0x0001#16 0x7FFF#16 0x0000#16 true false &&
      aluIs 0b111111#6 0x0000#16 0x0000#16 0x0001#16 false false && aluIs 0b111111#6 0xFFFF#16 0xFFFF#16 0x0001#16 false false && aluIs 0b111111#6 0x7FFF#16 0x0001#16 0x0001#16 false false &&
      aluIs 0b111111#6 0x8000#16 0xFFFF#16 0x0001#16 false false && aluIs 0b111111#6 0x7FFF#16 0x8000#16 0x0001#16 false false && aluIs 0b111111#6 0x0001#16 0x7FFF#16 0x0001#16 false false &&
      aluIs 0b111010#6 0x0000#16 0x0000#16 0xFFFF#16 false true && aluIs 0b111010#6 0xFFFF#16 0xFFFF#16 0xFFFF#16 false true && aluIs 0b111010#6 0x7FFF#16 0x0001#16 0xFFFF#16 false true &&
      aluIs 0b111010#6 0x8000#16 0xFFFF#16 0xFFFF#16 false true && aluIs 0b111010#6 0x7FFF#16 0x8000#16 0xFFFF#16 false true && aluIs 0b111010#6 0x0001#16 0x7FFF#16 0xFFFF#16 false true &&
      aluIs 0b001100#6 0x0000#16 0x0000#16 0x0000#16 true false && aluIs 0b001100#6 0xFFFF#16 0xFFFF#16 0xFFFF#16 false true && aluIs 0b001100#6 0x7FFF#16 0x0001#16 0x7FFF#16 false false &&
      aluIs 0b001100#6 0x8000#16 0xFFFF#16 0x8000#16 false true && aluIs 0b001100#6 0x7FFF#16 0x8000#16 0x7FFF#16 false false && aluIs 0b001100#6 0x0001#16 0x7FFF#16 0x0001#16 false false &&
      aluIs 0b110000#6 0x0000#16 0x0000#16 0x0000#16 true false && aluIs 0b110000#6 0xFFFF#16 0xFFFF#16 0xFFFF#16 false true && aluIs 0b110000#6 0x7FFF#16 0x0001#16 0x0001#16 false false &&
      aluIs 0b110000#6 0x8000#16 0xFFFF#16 0xFFFF#16 false true && aluIs 0b110000#6 0x7FFF#16 0x8000#16 0x8000#16 false true && aluIs 0b110000#6 0x0001#16 0x7FFF#16 0x7FFF#16 false false &&
      aluIs 0b001101#6 0x0000#16 0x0000#16 0xFFFF#16 false true && aluIs 0b001101#6 0xFFFF#16 0xFFFF#16 0x0000#16 true false && aluIs 0b001101#6 0x7FFF#16 0x0001#16 0x8000#16 false true &&
      aluIs 0b001101#6 0x8000#16 0xFFFF#16 0x7FFF#16 false false && aluIs 0b001101#6 0x7FFF#16 0x8000#16 0x8000#16 false true && aluIs 0b001101#6 0x0001#16 0x7FFF#16 0xFFFE#16 false true) = true := by
  decide

/-- ALU vectors of the canonical functions, spec/95_test_vectors.md section 2. -/
theorem test_alu_canonical_2 :
    (aluIs 0b110001#6 0x0000#16 0x0000#16 0xFFFF#16 false true && aluIs 0b110001#6 0xFFFF#16 0xFFFF#16 0x0000#16 true false && aluIs 0b110001#6 0x7FFF#16 0x0001#16 0xFFFE#16 false true &&
      aluIs 0b110001#6 0x8000#16 0xFFFF#16 0x0000#16 true false && aluIs 0b110001#6 0x7FFF#16 0x8000#16 0x7FFF#16 false false && aluIs 0b110001#6 0x0001#16 0x7FFF#16 0x8000#16 false true &&
      aluIs 0b001111#6 0x0000#16 0x0000#16 0x0000#16 true false && aluIs 0b001111#6 0xFFFF#16 0xFFFF#16 0x0001#16 false false && aluIs 0b001111#6 0x7FFF#16 0x0001#16 0x8001#16 false true &&
      aluIs 0b001111#6 0x8000#16 0xFFFF#16 0x8000#16 false true && aluIs 0b001111#6 0x7FFF#16 0x8000#16 0x8001#16 false true && aluIs 0b001111#6 0x0001#16 0x7FFF#16 0xFFFF#16 false true &&
      aluIs 0b110011#6 0x0000#16 0x0000#16 0x0000#16 true false && aluIs 0b110011#6 0xFFFF#16 0xFFFF#16 0x0001#16 false false && aluIs 0b110011#6 0x7FFF#16 0x0001#16 0xFFFF#16 false true &&
      aluIs 0b110011#6 0x8000#16 0xFFFF#16 0x0001#16 false false && aluIs 0b110011#6 0x7FFF#16 0x8000#16 0x8000#16 false true && aluIs 0b110011#6 0x0001#16 0x7FFF#16 0x8001#16 false true &&
      aluIs 0b011111#6 0x0000#16 0x0000#16 0x0001#16 false false && aluIs 0b011111#6 0xFFFF#16 0xFFFF#16 0x0000#16 true false && aluIs 0b011111#6 0x7FFF#16 0x0001#16 0x8000#16 false true &&
      aluIs 0b011111#6 0x8000#16 0xFFFF#16 0x8001#16 false true && aluIs 0b011111#6 0x7FFF#16 0x8000#16 0x8000#16 false true && aluIs 0b011111#6 0x0001#16 0x7FFF#16 0x0002#16 false false &&
      aluIs 0b110111#6 0x0000#16 0x0000#16 0x0001#16 false false && aluIs 0b110111#6 0xFFFF#16 0xFFFF#16 0x0000#16 true false && aluIs 0b110111#6 0x7FFF#16 0x0001#16 0x0002#16 false false &&
      aluIs 0b110111#6 0x8000#16 0xFFFF#16 0x0000#16 true false && aluIs 0b110111#6 0x7FFF#16 0x8000#16 0x8001#16 false true && aluIs 0b110111#6 0x0001#16 0x7FFF#16 0x8000#16 false true &&
      aluIs 0b001110#6 0x0000#16 0x0000#16 0xFFFF#16 false true && aluIs 0b001110#6 0xFFFF#16 0xFFFF#16 0xFFFE#16 false true && aluIs 0b001110#6 0x7FFF#16 0x0001#16 0x7FFE#16 false false &&
      aluIs 0b001110#6 0x8000#16 0xFFFF#16 0x7FFF#16 false false && aluIs 0b001110#6 0x7FFF#16 0x8000#16 0x7FFE#16 false false && aluIs 0b001110#6 0x0001#16 0x7FFF#16 0x0000#16 true false) = true := by
  decide

/-- ALU vectors of the canonical functions, spec/95_test_vectors.md section 2. -/
theorem test_alu_canonical_3 :
    (aluIs 0b110010#6 0x0000#16 0x0000#16 0xFFFF#16 false true && aluIs 0b110010#6 0xFFFF#16 0xFFFF#16 0xFFFE#16 false true && aluIs 0b110010#6 0x7FFF#16 0x0001#16 0x0000#16 true false &&
      aluIs 0b110010#6 0x8000#16 0xFFFF#16 0xFFFE#16 false true && aluIs 0b110010#6 0x7FFF#16 0x8000#16 0x7FFF#16 false false && aluIs 0b110010#6 0x0001#16 0x7FFF#16 0x7FFE#16 false false &&
      aluIs 0b000010#6 0x0000#16 0x0000#16 0x0000#16 true false && aluIs 0b000010#6 0xFFFF#16 0xFFFF#16 0xFFFE#16 false true && aluIs 0b000010#6 0x7FFF#16 0x0001#16 0x8000#16 false true &&
      aluIs 0b000010#6 0x8000#16 0xFFFF#16 0x7FFF#16 false false && aluIs 0b000010#6 0x7FFF#16 0x8000#16 0xFFFF#16 false true && aluIs 0b000010#6 0x0001#16 0x7FFF#16 0x8000#16 false true &&
      aluIs 0b010011#6 0x0000#16 0x0000#16 0x0000#16 true false && aluIs 0b010011#6 0xFFFF#16 0xFFFF#16 0x0000#16 true false && aluIs 0b010011#6 0x7FFF#16 0x0001#16 0x7FFE#16 false false &&
      aluIs 0b010011#6 0x8000#16 0xFFFF#16 0x8001#16 false true && aluIs 0b010011#6 0x7FFF#16 0x8000#16 0xFFFF#16 false true && aluIs 0b010011#6 0x0001#16 0x7FFF#16 0x8002#16 false true &&
      aluIs 0b000111#6 0x0000#16 0x0000#16 0x0000#16 true false && aluIs 0b000111#6 0xFFFF#16 0xFFFF#16 0x0000#16 true false && aluIs 0b000111#6 0x7FFF#16 0x0001#16 0x8002#16 false true &&
      aluIs 0b000111#6 0x8000#16 0xFFFF#16 0x7FFF#16 false false && aluIs 0b000111#6 0x7FFF#16 0x8000#16 0x0001#16 false false && aluIs 0b000111#6 0x0001#16 0x7FFF#16 0x7FFE#16 false false &&
      aluIs 0b000000#6 0x0000#16 0x0000#16 0x0000#16 true false && aluIs 0b000000#6 0xFFFF#16 0xFFFF#16 0xFFFF#16 false true && aluIs 0b000000#6 0x7FFF#16 0x0001#16 0x0001#16 false false &&
      aluIs 0b000000#6 0x8000#16 0xFFFF#16 0x8000#16 false true && aluIs 0b000000#6 0x7FFF#16 0x8000#16 0x0000#16 true false && aluIs 0b000000#6 0x0001#16 0x7FFF#16 0x0001#16 false false &&
      aluIs 0b010101#6 0x0000#16 0x0000#16 0x0000#16 true false && aluIs 0b010101#6 0xFFFF#16 0xFFFF#16 0xFFFF#16 false true && aluIs 0b010101#6 0x7FFF#16 0x0001#16 0x7FFF#16 false false &&
      aluIs 0b010101#6 0x8000#16 0xFFFF#16 0xFFFF#16 false true && aluIs 0b010101#6 0x7FFF#16 0x8000#16 0xFFFF#16 false true && aluIs 0b010101#6 0x0001#16 0x7FFF#16 0x7FFF#16 false false) = true := by
  decide

/-- All 64 control patterns on two operand pairs, spec/95_test_vectors.md section 2. -/
theorem test_alu_patterns_000000_to_001111 :
    (aluIs 0b000000#6 0x0005#16 0x0003#16 0x0001#16 false false && aluIs 0b000000#6 0x8000#16 0x7FFF#16 0x0000#16 true false &&
      aluIs 0b000001#6 0x0005#16 0x0003#16 0xFFFE#16 false true && aluIs 0b000001#6 0x8000#16 0x7FFF#16 0xFFFF#16 false true &&
      aluIs 0b000010#6 0x0005#16 0x0003#16 0x0008#16 false false && aluIs 0b000010#6 0x8000#16 0x7FFF#16 0xFFFF#16 false true &&
      aluIs 0b000011#6 0x0005#16 0x0003#16 0xFFF7#16 false true && aluIs 0b000011#6 0x8000#16 0x7FFF#16 0x0000#16 true false &&
      aluIs 0b000100#6 0x0005#16 0x0003#16 0x0004#16 false false && aluIs 0b000100#6 0x8000#16 0x7FFF#16 0x8000#16 false true &&
      aluIs 0b000101#6 0x0005#16 0x0003#16 0xFFFB#16 false true && aluIs 0b000101#6 0x8000#16 0x7FFF#16 0x7FFF#16 false false &&
      aluIs 0b000110#6 0x0005#16 0x0003#16 0x0001#16 false false && aluIs 0b000110#6 0x8000#16 0x7FFF#16 0x0000#16 true false &&
      aluIs 0b000111#6 0x0005#16 0x0003#16 0xFFFE#16 false true && aluIs 0b000111#6 0x8000#16 0x7FFF#16 0xFFFF#16 false true &&
      aluIs 0b001000#6 0x0005#16 0x0003#16 0x0000#16 true false && aluIs 0b001000#6 0x8000#16 0x7FFF#16 0x0000#16 true false &&
      aluIs 0b001001#6 0x0005#16 0x0003#16 0xFFFF#16 false true && aluIs 0b001001#6 0x8000#16 0x7FFF#16 0xFFFF#16 false true &&
      aluIs 0b001010#6 0x0005#16 0x0003#16 0x0005#16 false false && aluIs 0b001010#6 0x8000#16 0x7FFF#16 0x8000#16 false true &&
      aluIs 0b001011#6 0x0005#16 0x0003#16 0xFFFA#16 false true && aluIs 0b001011#6 0x8000#16 0x7FFF#16 0x7FFF#16 false false &&
      aluIs 0b001100#6 0x0005#16 0x0003#16 0x0005#16 false false && aluIs 0b001100#6 0x8000#16 0x7FFF#16 0x8000#16 false true &&
      aluIs 0b001101#6 0x0005#16 0x0003#16 0xFFFA#16 false true && aluIs 0b001101#6 0x8000#16 0x7FFF#16 0x7FFF#16 false false &&
      aluIs 0b001110#6 0x0005#16 0x0003#16 0x0004#16 false false && aluIs 0b001110#6 0x8000#16 0x7FFF#16 0x7FFF#16 false false &&
      aluIs 0b001111#6 0x0005#16 0x0003#16 0xFFFB#16 false true && aluIs 0b001111#6 0x8000#16 0x7FFF#16 0x8000#16 false true) = true := by
  decide

/-- All 64 control patterns on two operand pairs, spec/95_test_vectors.md section 2. -/
theorem test_alu_patterns_010000_to_011111 :
    (aluIs 0b010000#6 0x0005#16 0x0003#16 0x0002#16 false false && aluIs 0b010000#6 0x8000#16 0x7FFF#16 0x7FFF#16 false false &&
      aluIs 0b010001#6 0x0005#16 0x0003#16 0xFFFD#16 false true && aluIs 0b010001#6 0x8000#16 0x7FFF#16 0x8000#16 false true &&
      aluIs 0b010010#6 0x0005#16 0x0003#16 0xFFFD#16 false true && aluIs 0b010010#6 0x8000#16 0x7FFF#16 0xFFFE#16 false true &&
      aluIs 0b010011#6 0x0005#16 0x0003#16 0x0002#16 false false && aluIs 0b010011#6 0x8000#16 0x7FFF#16 0x0001#16 false false &&
      aluIs 0b010100#6 0x0005#16 0x0003#16 0xFFF8#16 false true && aluIs 0b010100#6 0x8000#16 0x7FFF#16 0x0000#16 true false &&
      aluIs 0b010101#6 0x0005#16 0x0003#16 0x0007#16 false false && aluIs 0b010101#6 0x8000#16 0x7FFF#16 0xFFFF#16 false true &&
      aluIs 0b010110#6 0x0005#16 0x0003#16 0xFFF6#16 false true && aluIs 0b010110#6 0x8000#16 0x7FFF#16 0xFFFF#16 false true &&
      aluIs 0b010111#6 0x0005#16 0x0003#16 0x0009#16 false false && aluIs 0b010111#6 0x8000#16 0x7FFF#16 0x0000#16 true false &&
      aluIs 0b011000#6 0x0005#16 0x0003#16 0x0000#16 true false && aluIs 0b011000#6 0x8000#16 0x7FFF#16 0x0000#16 true false &&
      aluIs 0b011001#6 0x0005#16 0x0003#16 0xFFFF#16 false true && aluIs 0b011001#6 0x8000#16 0x7FFF#16 0xFFFF#16 false true &&
      aluIs 0b011010#6 0x0005#16 0x0003#16 0xFFFA#16 false true && aluIs 0b011010#6 0x8000#16 0x7FFF#16 0x7FFF#16 false false &&
      aluIs 0b011011#6 0x0005#16 0x0003#16 0x0005#16 false false && aluIs 0b011011#6 0x8000#16 0x7FFF#16 0x8000#16 false true &&
      aluIs 0b011100#6 0x0005#16 0x0003#16 0xFFFA#16 false true && aluIs 0b011100#6 0x8000#16 0x7FFF#16 0x7FFF#16 false false &&
      aluIs 0b011101#6 0x0005#16 0x0003#16 0x0005#16 false false && aluIs 0b011101#6 0x8000#16 0x7FFF#16 0x8000#16 false true &&
      aluIs 0b011110#6 0x0005#16 0x0003#16 0xFFF9#16 false true && aluIs 0b011110#6 0x8000#16 0x7FFF#16 0x7FFE#16 false false &&
      aluIs 0b011111#6 0x0005#16 0x0003#16 0x0006#16 false false && aluIs 0b011111#6 0x8000#16 0x7FFF#16 0x8001#16 false true) = true := by
  decide

/-- All 64 control patterns on two operand pairs, spec/95_test_vectors.md section 2. -/
theorem test_alu_patterns_100000_to_101111 :
    (aluIs 0b100000#6 0x0005#16 0x0003#16 0x0000#16 true false && aluIs 0b100000#6 0x8000#16 0x7FFF#16 0x0000#16 true false &&
      aluIs 0b100001#6 0x0005#16 0x0003#16 0xFFFF#16 false true && aluIs 0b100001#6 0x8000#16 0x7FFF#16 0xFFFF#16 false true &&
      aluIs 0b100010#6 0x0005#16 0x0003#16 0x0003#16 false false && aluIs 0b100010#6 0x8000#16 0x7FFF#16 0x7FFF#16 false false &&
      aluIs 0b100011#6 0x0005#16 0x0003#16 0xFFFC#16 false true && aluIs 0b100011#6 0x8000#16 0x7FFF#16 0x8000#16 false true &&
      aluIs 0b100100#6 0x0005#16 0x0003#16 0x0000#16 true false && aluIs 0b100100#6 0x8000#16 0x7FFF#16 0x0000#16 true false &&
      aluIs 0b100101#6 0x0005#16 0x0003#16 0xFFFF#16 false true && aluIs 0b100101#6 0x8000#16 0x7FFF#16 0xFFFF#16 false true &&
      aluIs 0b100110#6 0x0005#16 0x0003#16 0xFFFC#16 false true && aluIs 0b100110#6 0x8000#16 0x7FFF#16 0x8000#16 false true &&
      aluIs 0b100111#6 0x0005#16 0x0003#16 0x0003#16 false false && aluIs 0b100111#6 0x8000#16 0x7FFF#16 0x7FFF#16 false false &&
      aluIs 0b101000#6 0x0005#16 0x0003#16 0x0000#16 true false && aluIs 0b101000#6 0x8000#16 0x7FFF#16 0x0000#16 true false &&
      aluIs 0b101001#6 0x0005#16 0x0003#16 0xFFFF#16 false true && aluIs 0b101001#6 0x8000#16 0x7FFF#16 0xFFFF#16 false true &&
      aluIs 0b101010#6 0x0005#16 0x0003#16 0x0000#16 true false && aluIs 0b101010#6 0x8000#16 0x7FFF#16 0x0000#16 true false &&
      aluIs 0b101011#6 0x0005#16 0x0003#16 0xFFFF#16 false true && aluIs 0b101011#6 0x8000#16 0x7FFF#16 0xFFFF#16 false true &&
      aluIs 0b101100#6 0x0005#16 0x0003#16 0x0000#16 true false && aluIs 0b101100#6 0x8000#16 0x7FFF#16 0x0000#16 true false &&
      aluIs 0b101101#6 0x0005#16 0x0003#16 0xFFFF#16 false true && aluIs 0b101101#6 0x8000#16 0x7FFF#16 0xFFFF#16 false true &&
      aluIs 0b101110#6 0x0005#16 0x0003#16 0xFFFF#16 false true && aluIs 0b101110#6 0x8000#16 0x7FFF#16 0xFFFF#16 false true &&
      aluIs 0b101111#6 0x0005#16 0x0003#16 0x0000#16 true false && aluIs 0b101111#6 0x8000#16 0x7FFF#16 0x0000#16 true false) = true := by
  decide

/-- All 64 control patterns on two operand pairs, spec/95_test_vectors.md section 2. -/
theorem test_alu_patterns_110000_to_111111 :
    (aluIs 0b110000#6 0x0005#16 0x0003#16 0x0003#16 false false && aluIs 0b110000#6 0x8000#16 0x7FFF#16 0x7FFF#16 false false &&
      aluIs 0b110001#6 0x0005#16 0x0003#16 0xFFFC#16 false true && aluIs 0b110001#6 0x8000#16 0x7FFF#16 0x8000#16 false true &&
      aluIs 0b110010#6 0x0005#16 0x0003#16 0x0002#16 false false && aluIs 0b110010#6 0x8000#16 0x7FFF#16 0x7FFE#16 false false &&
      aluIs 0b110011#6 0x0005#16 0x0003#16 0xFFFD#16 false true && aluIs 0b110011#6 0x8000#16 0x7FFF#16 0x8001#16 false true &&
      aluIs 0b110100#6 0x0005#16 0x0003#16 0xFFFC#16 false true && aluIs 0b110100#6 0x8000#16 0x7FFF#16 0x8000#16 false true &&
      aluIs 0b110101#6 0x0005#16 0x0003#16 0x0003#16 false false && aluIs 0b110101#6 0x8000#16 0x7FFF#16 0x7FFF#16 false false &&
      aluIs 0b110110#6 0x0005#16 0x0003#16 0xFFFB#16 false true && aluIs 0b110110#6 0x8000#16 0x7FFF#16 0x7FFF#16 false false &&
      aluIs 0b110111#6 0x0005#16 0x0003#16 0x0004#16 false false && aluIs 0b110111#6 0x8000#16 0x7FFF#16 0x8000#16 false true &&
      aluIs 0b111000#6 0x0005#16 0x0003#16 0x0000#16 true false && aluIs 0b111000#6 0x8000#16 0x7FFF#16 0x0000#16 true false &&
      aluIs 0b111001#6 0x0005#16 0x0003#16 0xFFFF#16 false true && aluIs 0b111001#6 0x8000#16 0x7FFF#16 0xFFFF#16 false true &&
      aluIs 0b111010#6 0x0005#16 0x0003#16 0xFFFF#16 false true && aluIs 0b111010#6 0x8000#16 0x7FFF#16 0xFFFF#16 false true &&
      aluIs 0b111011#6 0x0005#16 0x0003#16 0x0000#16 true false && aluIs 0b111011#6 0x8000#16 0x7FFF#16 0x0000#16 true false &&
      aluIs 0b111100#6 0x0005#16 0x0003#16 0xFFFF#16 false true && aluIs 0b111100#6 0x8000#16 0x7FFF#16 0xFFFF#16 false true &&
      aluIs 0b111101#6 0x0005#16 0x0003#16 0x0000#16 true false && aluIs 0b111101#6 0x8000#16 0x7FFF#16 0x0000#16 true false &&
      aluIs 0b111110#6 0x0005#16 0x0003#16 0xFFFE#16 false true && aluIs 0b111110#6 0x8000#16 0x7FFF#16 0xFFFE#16 false true &&
      aluIs 0b111111#6 0x0005#16 0x0003#16 0x0001#16 false false && aluIs 0b111111#6 0x8000#16 0x7FFF#16 0x0001#16 false false) = true := by
  decide

/-- Jump vectors, the unreachable pair among them, spec/95_test_vectors.md section 3. -/
theorem test_jump_unit :
    (jumpCond .never false false, jumpCond .never true false, jumpCond .never false true, jumpCond .never true true) =
      (false, false, false, false) ∧
    (jumpCond .jgt false false, jumpCond .jgt true false, jumpCond .jgt false true, jumpCond .jgt true true) =
      (true, false, false, false) ∧
    (jumpCond .jeq false false, jumpCond .jeq true false, jumpCond .jeq false true, jumpCond .jeq true true) =
      (false, true, false, true) ∧
    (jumpCond .jge false false, jumpCond .jge true false, jumpCond .jge false true, jumpCond .jge true true) =
      (true, true, false, true) ∧
    (jumpCond .jlt false false, jumpCond .jlt true false, jumpCond .jlt false true, jumpCond .jlt true true) =
      (false, false, true, true) ∧
    (jumpCond .jne false false, jumpCond .jne true false, jumpCond .jne false true, jumpCond .jne true true) =
      (true, false, true, false) ∧
    (jumpCond .jle false false, jumpCond .jle true false, jumpCond .jle false true, jumpCond .jle true true) =
      (false, true, true, true) ∧
    (jumpCond .jmp false false, jumpCond .jmp true false, jumpCond .jmp false true, jumpCond .jmp true true) =
      (true, true, true, true) := by
  decide

/-- The jump codes at the CPU level, spec/95_test_vectors.md section 3. -/
theorem test_jump_words :
    [0x0003#16, 0x0000#16, 0xFFFF#16, 0x8000#16].map (fun d => (regsAfter 0xE300#16 (small 0x0010#16 d 0x0004#15)).map (·.pc)) =
      [some 0x0005#15, some 0x0005#15, some 0x0005#15, some 0x0005#15] ∧
    [0x0003#16, 0x0000#16, 0xFFFF#16, 0x8000#16].map (fun d => (regsAfter 0xE301#16 (small 0x0010#16 d 0x0004#15)).map (·.pc)) =
      [some 0x0010#15, some 0x0005#15, some 0x0005#15, some 0x0005#15] ∧
    [0x0003#16, 0x0000#16, 0xFFFF#16, 0x8000#16].map (fun d => (regsAfter 0xE302#16 (small 0x0010#16 d 0x0004#15)).map (·.pc)) =
      [some 0x0005#15, some 0x0010#15, some 0x0005#15, some 0x0005#15] ∧
    [0x0003#16, 0x0000#16, 0xFFFF#16, 0x8000#16].map (fun d => (regsAfter 0xE303#16 (small 0x0010#16 d 0x0004#15)).map (·.pc)) =
      [some 0x0010#15, some 0x0010#15, some 0x0005#15, some 0x0005#15] ∧
    [0x0003#16, 0x0000#16, 0xFFFF#16, 0x8000#16].map (fun d => (regsAfter 0xE304#16 (small 0x0010#16 d 0x0004#15)).map (·.pc)) =
      [some 0x0005#15, some 0x0005#15, some 0x0010#15, some 0x0010#15] ∧
    [0x0003#16, 0x0000#16, 0xFFFF#16, 0x8000#16].map (fun d => (regsAfter 0xE305#16 (small 0x0010#16 d 0x0004#15)).map (·.pc)) =
      [some 0x0010#15, some 0x0005#15, some 0x0010#15, some 0x0010#15] ∧
    [0x0003#16, 0x0000#16, 0xFFFF#16, 0x8000#16].map (fun d => (regsAfter 0xE306#16 (small 0x0010#16 d 0x0004#15)).map (·.pc)) =
      [some 0x0005#15, some 0x0010#15, some 0x0010#15, some 0x0010#15] ∧
    [0x0003#16, 0x0000#16, 0xFFFF#16, 0x8000#16].map (fun d => (regsAfter 0xE307#16 (small 0x0010#16 d 0x0004#15)).map (·.pc)) =
      [some 0x0010#15, some 0x0010#15, some 0x0010#15, some 0x0010#15] := by
  decide

/-- The start state of the dest vectors. -/
def destStart : State := small 0x0005#16 0x0007#16 0x0002#15 0x0009#16

/-- Destination vectors of M+1, spec/95_test_vectors.md section 5. -/
theorem test_dest_codes_1 :
    regsAfter 0xFDC0#16 destStart = some ⟨0x0005#16, 0x0007#16, 0x0003#15⟩ ∧
    portsOf 0xFDC0#16 destStart = some (none, 0x0005#15, 0x0002#15) ∧ wordAfter 0xFDC0#16 destStart 0x0005#15 = some 0x0009#16 ∧
    regsAfter 0xFDC8#16 destStart = some ⟨0x0005#16, 0x0007#16, 0x0003#15⟩ ∧
    portsOf 0xFDC8#16 destStart = some (some 0x000A#16, 0x0005#15, 0x0002#15) ∧ wordAfter 0xFDC8#16 destStart 0x0005#15 = some 0x000A#16 ∧
    regsAfter 0xFDD0#16 destStart = some ⟨0x0005#16, 0x000A#16, 0x0003#15⟩ ∧
    portsOf 0xFDD0#16 destStart = some (none, 0x0005#15, 0x0002#15) ∧ wordAfter 0xFDD0#16 destStart 0x0005#15 = some 0x0009#16 ∧
    regsAfter 0xFDD8#16 destStart = some ⟨0x0005#16, 0x000A#16, 0x0003#15⟩ ∧
    portsOf 0xFDD8#16 destStart = some (some 0x000A#16, 0x0005#15, 0x0002#15) ∧ wordAfter 0xFDD8#16 destStart 0x0005#15 = some 0x000A#16 := by
  decide

/-- Destination vectors of M+1, spec/95_test_vectors.md section 5. -/
theorem test_dest_codes_2 :
    regsAfter 0xFDE0#16 destStart = some ⟨0x000A#16, 0x0007#16, 0x0003#15⟩ ∧
    portsOf 0xFDE0#16 destStart = some (none, 0x0005#15, 0x0002#15) ∧ wordAfter 0xFDE0#16 destStart 0x0005#15 = some 0x0009#16 ∧
    regsAfter 0xFDE8#16 destStart = some ⟨0x000A#16, 0x0007#16, 0x0003#15⟩ ∧
    portsOf 0xFDE8#16 destStart = some (some 0x000A#16, 0x0005#15, 0x0002#15) ∧ wordAfter 0xFDE8#16 destStart 0x0005#15 = some 0x000A#16 ∧
    regsAfter 0xFDF0#16 destStart = some ⟨0x000A#16, 0x000A#16, 0x0003#15⟩ ∧
    portsOf 0xFDF0#16 destStart = some (none, 0x0005#15, 0x0002#15) ∧ wordAfter 0xFDF0#16 destStart 0x0005#15 = some 0x0009#16 ∧
    regsAfter 0xFDF8#16 destStart = some ⟨0x000A#16, 0x000A#16, 0x0003#15⟩ ∧
    portsOf 0xFDF8#16 destStart = some (some 0x000A#16, 0x0005#15, 0x0002#15) ∧ wordAfter 0xFDF8#16 destStart 0x0005#15 = some 0x000A#16 := by
  decide

/-- Program-counter vectors, spec/95_test_vectors.md section 6. -/
theorem test_pc_vectors :
    (regsAfter 0x0064#16 (small 0x0010#16 0x001E#16 0x0004#15 0x0000#16 false)).map (·.pc) = some 0x0005#15 ∧
    (regsAfter 0xEA87#16 (small 0x0010#16 0x001E#16 0x0004#15 0x0000#16 false)).map (·.pc) = some 0x0010#15 ∧
    (regsAfter 0xEA87#16 (small 0x8005#16 0x001E#16 0x0004#15 0x0000#16 false)).map (·.pc) = some 0x0005#15 ∧
    (regsAfter 0xEA87#16 (small 0x0010#16 0x001E#16 0x0004#15 0x0000#16 true)).map (·.pc) = some 0x0000#15 ∧
    (regsAfter 0x0064#16 (small 0x0010#16 0x001E#16 0x0123#15 0x0000#16 true)).map (·.pc) = some 0x0000#15 ∧
    (regsAfter 0xEA87#16 (small 0x0000#16 0x001E#16 0x7FFF#15 0x0000#16 false)).map (·.pc) = some 0x0000#15 ∧
    (regsAfter 0x0064#16 (small 0x0010#16 0x001E#16 0x7FFF#15 0x0000#16 true)).map (·.pc) = some 0x0000#15 ∧
    (regsAfter 0xEA85#16 (small 0x0010#16 0x001E#16 0x0004#15 0x0000#16 false)).map (·.pc) = some 0x0005#15 ∧
    (regsAfter 0xEA82#16 (small 0x0010#16 0x001E#16 0x0004#15 0x0000#16 false)).map (·.pc) = some 0x0010#15 ∧
    (regsAfter 0xE327#16 (small 0x000C#16 0x001E#16 0x0004#15 0x0000#16 false)).map (·.pc) = some 0x000C#15 := by
  decide

/-- The two rows of section 6 that name pcOverflow, and rule R166. -/
theorem test_pc_overflow_both_policies :
    nextPc .wrap false false 0x0010#15 0x7FFF#15 = some 0x0000#15 ∧ nextPc .fault false false 0x0010#15 0x7FFF#15 = none ∧
    nextPc .fault false false 0x0010#15 0x7FFE#15 = some 0x7FFF#15 := by
  decide

/-- Full-step vectors S1 to S4, spec/95_test_vectors.md section 7. -/
theorem test_full_step_vectors_1 :
    regsAfter 0x0064#16 (small 0x1234#16 0x0007#16 0x0010#15 0x0000#16 false) = some ⟨0x0064#16, 0x0007#16, 0x0011#15⟩ ∧
    portsOf 0x0064#16 (small 0x1234#16 0x0007#16 0x0010#15 0x0000#16 false) = some (none, 0x1234#15, 0x0010#15) ∧
    regsAfter 0xE308#16 (small 0x0064#16 0x0007#16 0x0011#15 0x0000#16 false) = some ⟨0x0064#16, 0x0007#16, 0x0012#15⟩ ∧
    portsOf 0xE308#16 (small 0x0064#16 0x0007#16 0x0011#15 0x0000#16 false) = some (some 0x0007#16, 0x0064#15, 0x0011#15) ∧
    regsAfter 0xFDE8#16 (small 0x0005#16 0x0000#16 0x0002#15 0x0009#16 false) = some ⟨0x000A#16, 0x0000#16, 0x0003#15⟩ ∧
    portsOf 0xFDE8#16 (small 0x0005#16 0x0000#16 0x0002#15 0x0009#16 false) = some (some 0x000A#16, 0x0005#15, 0x0002#15) ∧
    regsAfter 0xE327#16 (small 0x000C#16 0x001E#16 0x0004#15 0x0000#16 false) = some ⟨0x001E#16, 0x001E#16, 0x000C#15⟩ ∧
    portsOf 0xE327#16 (small 0x000C#16 0x001E#16 0x0004#15 0x0000#16 false) = some (none, 0x000C#15, 0x0004#15) := by
  decide

/-- Full-step vectors S5 to S8, spec/95_test_vectors.md section 7. -/
theorem test_full_step_vectors_2 :
    regsAfter 0xFC10#16 (small 0x8005#16 0x0000#16 0x0000#15 0x4321#16 false) = some ⟨0x8005#16, 0x4321#16, 0x0001#15⟩ ∧
    portsOf 0xFC10#16 (small 0x8005#16 0x0000#16 0x0000#15 0x4321#16 false) = some (none, 0x0005#15, 0x0000#15) ∧
    regsAfter 0xEC10#16 (small 0x8005#16 0x0000#16 0x0000#15 0x4321#16 false) = some ⟨0x8005#16, 0x8005#16, 0x0001#15⟩ ∧
    portsOf 0xEC10#16 (small 0x8005#16 0x0000#16 0x0000#15 0x4321#16 false) = some (none, 0x0005#15, 0x0000#15) ∧
    regsAfter 0xEEB8#16 (small 0x0003#16 0x0002#16 0x0009#15 0x0000#16 false) = some ⟨0xFFFF#16, 0xFFFF#16, 0x000A#15⟩ ∧
    portsOf 0xEEB8#16 (small 0x0003#16 0x0002#16 0x0009#15 0x0000#16 false) = some (some 0xFFFF#16, 0x0003#15, 0x0009#15) ∧
    regsAfter 0xE308#16 (small 0x0064#16 0x0007#16 0x0011#15 0x0000#16 true) = some ⟨0x0064#16, 0x0007#16, 0x0000#15⟩ ∧
    portsOf 0xE308#16 (small 0x0064#16 0x0007#16 0x0011#15 0x0000#16 true) = some (some 0x0007#16, 0x0064#15, 0x0011#15) := by
  decide

/-- Full-step vectors S9 to S12, spec/95_test_vectors.md section 7. -/
theorem test_full_step_vectors_3 :
    regsAfter 0xE4D4#16 (small 0xFFFF#16 0x7FFF#16 0x0003#15 0x0000#16 false) = some ⟨0xFFFF#16, 0x8000#16, 0x7FFF#15⟩ ∧
    portsOf 0xE4D4#16 (small 0xFFFF#16 0x7FFF#16 0x0003#15 0x0000#16 false) = some (none, 0x7FFF#15, 0x0003#15) ∧
    regsAfter 0x8308#16 (small 0x0064#16 0x0007#16 0x0011#15 0x0000#16 false) = some ⟨0x0064#16, 0x0007#16, 0x0012#15⟩ ∧
    portsOf 0x8308#16 (small 0x0064#16 0x0007#16 0x0011#15 0x0000#16 false) = some (some 0x0007#16, 0x0064#15, 0x0011#15) ∧
    regsAfter 0xEA87#16 (small 0x0000#16 0x0000#16 0x7FFF#15 0x0000#16 false) = some ⟨0x0000#16, 0x0000#16, 0x0000#15⟩ ∧
    portsOf 0xEA87#16 (small 0x0000#16 0x0000#16 0x7FFF#15 0x0000#16 false) = some (none, 0x0000#15, 0x7FFF#15) ∧
    regsAfter 0xE7D0#16 (small 0x0000#16 0xFFFF#16 0x0005#15 0x0000#16 false) = some ⟨0x0000#16, 0x0000#16, 0x0006#15⟩ ∧
    portsOf 0xE7D0#16 (small 0x0000#16 0xFFFF#16 0x0005#15 0x0000#16 false) = some (none, 0x0000#15, 0x0005#15) := by
  decide

/-- Full-step vectors S13 to S16, spec/95_test_vectors.md section 7. -/
theorem test_full_step_vectors_4 :
    regsAfter 0xF4D1#16 (small 0x0000#16 0x0000#16 0x0005#15 0x0000#16 false) = some ⟨0x0000#16, 0x0000#16, 0x0006#15⟩ ∧
    portsOf 0xF4D1#16 (small 0x0000#16 0x0000#16 0x0005#15 0x0000#16 false) = some (none, 0x0000#15, 0x0005#15) ∧
    regsAfter 0xE4D1#16 (small 0x0004#16 0x0009#16 0x0006#15 0x0000#16 false) = some ⟨0x0004#16, 0x0005#16, 0x0004#15⟩ ∧
    portsOf 0xE4D1#16 (small 0x0004#16 0x0009#16 0x0006#15 0x0000#16 false) = some (none, 0x0004#15, 0x0006#15) ∧
    regsAfter 0xFC88#16 (small 0x0001#16 0x0003#16 0x000B#15 0x0004#16 false) = some ⟨0x0001#16, 0x0003#16, 0x000C#15⟩ ∧
    portsOf 0xFC88#16 (small 0x0001#16 0x0003#16 0x000B#15 0x0004#16 false) = some (some 0x0003#16, 0x0001#15, 0x000B#15) ∧
    regsAfter 0x7FFF#16 (small 0x0000#16 0x0000#16 0x0000#15 0x0000#16 false) = some ⟨0x7FFF#16, 0x0000#16, 0x0001#15⟩ ∧
    portsOf 0x7FFF#16 (small 0x0000#16 0x0000#16 0x0000#15 0x0000#16 false) = some (none, 0x0000#15, 0x0000#15) := by
  decide

/-- S3 and S15 write the word at the old A (rules R183 and R184). -/
theorem test_write_lands_at_old_address :
    wordAfter 0xFDE8#16 (small 0x0005#16 0x0000#16 0x0002#15 0x0009#16) 0x0005#15 = some 0x000A#16 ∧
    wordAfter 0xFDE8#16 (small 0x0005#16 0x0000#16 0x0002#15 0x0009#16) 0x000A#15 = some 0x0000#16 ∧
    wordAfter 0xFC88#16 (small 0x0001#16 0x0003#16 0x000B#15 0x0004#16) 0x0001#15 = some 0x0003#16 := by
  decide

/-- A write to the top of data memory, and a write of the unlisted word, which takes the entry off the list. -/
theorem test_memory_edges :
    (Memory.write [] 0x7FFF#15 0x1234#16).read 0x7FFF#15 = 0x1234#16 ∧
    Memory.write [(5, 0x0009#16)] 0x0005#15 0x0000#16 = [] ∧
    Memory.write [(5, 0x0009#16)] 0x0003#15 0x0001#16 = [(3, 0x0001#16), (5, 0x0009#16)] := by
  decide

/-- The canonical form refuses a list out of order, an address outside the space, and a listed unlisted word. -/
theorem test_memory_wf_refuses :
    Memory.wf [(5, 0x0001#16), (3, 0x0001#16)] = false ∧ Memory.wf [(32768, 0x0001#16)] = false ∧
    Memory.wf [(5, 0x0000#16)] = false ∧ Memory.loaded [(5, 0x0000#16)] = true := by
  decide

/-- A fetch from an UNLOADED address is the model fault (rule R48). -/
theorem test_fetch_unloaded : step State.reset = .fault (.fetchUnloaded 0x0000#15) := rfl

/-- The first step after construct runs the word placed at address 0 (rule R253). -/
theorem test_first_step_after_reset :
    (nextOf (step (State.reset.withFetchWord 16 0xEFD0))).map (·.regs) = some ⟨0x0000#16, 0x0001#16, 0x0001#15⟩ := by
  decide

/-- The memory events of M=M+1 and of @5 (rule R50). -/
theorem test_memory_events :
    cycleEvents 0xFDC8#16 destStart = [.read 0x0005#15 0x0009#16, .write 0x0005#15 0x000A#16] ∧
    cycleEvents 0x0005#16 destStart = [] ∧ cycleEvents 0xFC10#16 destStart = [.read 0x0005#15 0x0009#16] := by
  decide

/-- `(END) @END 0;JMP` at address 0 as haltPc halts before its first cycle; at haltPc 1 after one (decision D11). -/
theorem test_run_ends :
    run 0x0000#15 3 (launchCold [(0, 0x0000#16), (1, 0xEA87#16)] [] [] []) =
      .halted (launchCold [(0, 0x0000#16), (1, 0xEA87#16)] [] [] []) ∧
    run 0x0005#15 0 State.reset = .outOfFuel State.reset ∧
    run 0x0005#15 1 State.reset = .faulted (.fetchUnloaded 0x0000#15) := by
  decide

/-! Witnesses: states and operands that meet the hypotheses of each statement. -/

/-- A state well below the top of the address space. -/
def start : State := small 0x0003#16 0x0002#16 0x0004#15 0x0009#16

/-- A state at the top of the address space, with the given reset input. -/
def top (reset : Bool) : State := small 0x0003#16 0x0002#16 0x7FFF#15 0x0009#16 reset

/-- Each clause of NoPcOverflow at its boundary: reset at 0x7FFF, a taken jump at 0x7FFF, PC = 0x7FFE with neither. -/
theorem witness_noPcOverflow_clauses :
    NoPcOverflow (top true) false ∧ NoPcOverflow (top false) true ∧ ¬NoPcOverflow (top false) false ∧
    NoPcOverflow (small 0x0003#16 0x0002#16 0x7FFE#15) false := by
  decide

theorem witness_IgnoredBitsTakeNoPart :
    bit 0x8308#16 15 = true ∧ 0x8308#16 ||| 0x6000#16 = 0xE308#16 ||| 0x6000#16 := by decide

theorem witness_ClassIsBit15 : bit 0x7FFF#16 15 = false ∧ bit 0x8000#16 15 = true := by decide

theorem witness_AluIsLinearOrBitwise :
    (controlOf 0b000010#6).f = true ∧ (controlOf 0b000000#6).f = false ∧
    (0x8001#16).getLsbD 15 = (0xFFFF#16).getLsbD 15 := by decide

theorem witness_ConstantsZeroOneMinusOne :
    NoPcOverflow start (jumpHolds .jgt 0x0000#16) ∧ NoPcOverflow (top true) (jumpHolds .never 0x0000#16) ∧
    NoPcOverflow (top false) (jumpHolds .jmp 0x0000#16) ∧
    (nextOf (exec (.comp0 ⟨true, true, true⟩ .jgt) start)).isSome = true := by
  decide

theorem witness_PassDPassAPassM :
    NoPcOverflow start (jumpHolds .jgt 0x0002#16) ∧ NoPcOverflow (top true) (jumpHolds .never 0x0002#16) ∧
    NoPcOverflow (top false) (jumpHolds .jmp 0x0002#16) ∧
    (nextOf (exec (.compD ⟨true, true, true⟩ .jgt) start)).isSome = true ∧ (nextOf (exec (.compM ⟨true, true, true⟩ .jgt) start)).isSome = true := by
  decide

theorem witness_NotDNotANotM :
    NoPcOverflow start (jumpHolds .jgt 0xFFFD#16) ∧ NoPcOverflow (top true) (jumpHolds .never 0xFFFD#16) ∧
    NoPcOverflow (top false) (jumpHolds .jmp 0xFFFD#16) ∧
    (nextOf (exec (.compNotD ⟨true, true, true⟩ .jgt) start)).isSome = true ∧ (nextOf (exec (.compNotM ⟨true, true, true⟩ .jgt) start)).isSome = true := by
  decide

theorem witness_NegateDNegateANegateM :
    NoPcOverflow start (jumpHolds .jgt 0xFFFE#16) ∧ NoPcOverflow (top true) (jumpHolds .never 0xFFFE#16) ∧
    NoPcOverflow (top false) (jumpHolds .jmp 0xFFFE#16) ∧
    (nextOf (exec (.compNegD ⟨true, true, true⟩ .jgt) start)).isSome = true ∧ (nextOf (exec (.compNegM ⟨true, true, true⟩ .jgt) start)).isSome = true := by
  decide

theorem witness_IncrementDIncrementAIncrementM :
    NoPcOverflow start (jumpHolds .jgt 0x0003#16) ∧ NoPcOverflow (top true) (jumpHolds .never 0x0003#16) ∧
    NoPcOverflow (top false) (jumpHolds .jmp 0x0003#16) ∧
    (nextOf (exec (.compDPlus1 ⟨true, true, true⟩ .jgt) start)).isSome = true ∧ (nextOf (exec (.compMPlus1 ⟨true, true, true⟩ .jgt) start)).isSome = true := by
  decide

theorem witness_DecrementDDecrementADecrementM :
    NoPcOverflow start (jumpHolds .jgt 0x0001#16) ∧ NoPcOverflow (top true) (jumpHolds .never 0x0001#16) ∧
    NoPcOverflow (top false) (jumpHolds .jmp 0x0001#16) ∧
    (nextOf (exec (.compDMinus1 ⟨true, true, true⟩ .jgt) start)).isSome = true ∧ (nextOf (exec (.compMMinus1 ⟨true, true, true⟩ .jgt) start)).isSome = true := by
  decide

theorem witness_AddDToAOrM :
    NoPcOverflow start (jumpHolds .jgt 0x0005#16) ∧ NoPcOverflow (top true) (jumpHolds .never 0x0005#16) ∧
    NoPcOverflow (top false) (jumpHolds .jmp 0x0005#16) ∧
    (nextOf (exec (.compDPlusA ⟨true, true, true⟩ .jgt) start)).isSome = true ∧ (nextOf (exec (.compDPlusM ⟨true, true, true⟩ .jgt) start)).isSome = true := by
  decide

theorem witness_SubtractAOrMFromD :
    NoPcOverflow start (jumpHolds .jgt 0xFFFF#16) ∧ NoPcOverflow (top true) (jumpHolds .never 0xFFFF#16) ∧
    NoPcOverflow (top false) (jumpHolds .jmp 0xFFFF#16) ∧
    (nextOf (exec (.compDMinusA ⟨true, true, true⟩ .jgt) start)).isSome = true ∧ (nextOf (exec (.compDMinusM ⟨true, true, true⟩ .jgt) start)).isSome = true := by
  decide

theorem witness_SubtractDFromAOrM :
    NoPcOverflow start (jumpHolds .jgt 0x0001#16) ∧ NoPcOverflow (top true) (jumpHolds .never 0x0001#16) ∧
    NoPcOverflow (top false) (jumpHolds .jmp 0x0001#16) ∧
    (nextOf (exec (.compAMinusD ⟨true, true, true⟩ .jgt) start)).isSome = true ∧ (nextOf (exec (.compMMinusD ⟨true, true, true⟩ .jgt) start)).isSome = true := by
  decide

theorem witness_AndDWithAOrM :
    NoPcOverflow start (jumpHolds .jgt 0x0002#16) ∧ NoPcOverflow (top true) (jumpHolds .never 0x0002#16) ∧
    NoPcOverflow (top false) (jumpHolds .jmp 0x0002#16) ∧
    (nextOf (exec (.compDAndA ⟨true, true, true⟩ .jgt) start)).isSome = true ∧ (nextOf (exec (.compDAndM ⟨true, true, true⟩ .jgt) start)).isSome = true := by
  decide

theorem witness_OrDWithAOrM :
    NoPcOverflow start (jumpHolds .jgt 0x0003#16) ∧ NoPcOverflow (top true) (jumpHolds .never 0x0003#16) ∧
    NoPcOverflow (top false) (jumpHolds .jmp 0x0003#16) ∧
    (nextOf (exec (.compDOrA ⟨true, true, true⟩ .jgt) start)).isSome = true ∧ (nextOf (exec (.compDOrM ⟨true, true, true⟩ .jgt) start)).isSome = true := by
  decide

theorem witness_NonCanonicalConstants :
    NoPcOverflow start (jumpHolds .jgt 0xFFFE#16) ∧ NoPcOverflow (top true) (jumpHolds .never 0xFFFE#16) ∧
    NoPcOverflow (top false) (jumpHolds .jmp 0xFFFE#16) ∧
    (nextOf (exec (.compA0C001000 ⟨true, true, true⟩ .jgt) start)).isSome = true ∧ (nextOf (exec (.compA1C111110 ⟨true, true, true⟩ .jgt) start)).isSome = true := by
  decide

theorem witness_NonCanonicalFunctionsOfD :
    NoPcOverflow start (jumpHolds .jgt 0x0002#16) ∧ NoPcOverflow (top true) (jumpHolds .never 0x0002#16) ∧
    NoPcOverflow (top false) (jumpHolds .jmp 0x0002#16) ∧
    (nextOf (exec (.compA0C001010 ⟨true, true, true⟩ .jgt) start)).isSome = true ∧ (nextOf (exec (.compA1C011110 ⟨true, true, true⟩ .jgt) start)).isSome = true := by
  decide

theorem witness_NonCanonicalFunctionsOfY :
    NoPcOverflow start (jumpHolds .jgt 0x0003#16) ∧ NoPcOverflow (top true) (jumpHolds .never 0x0003#16) ∧
    NoPcOverflow (top false) (jumpHolds .jmp 0x0003#16) ∧
    (nextOf (exec (.compA0C100010 ⟨true, true, true⟩ .jgt) start)).isSome = true ∧ (nextOf (exec (.compA1C110110 ⟨true, true, true⟩ .jgt) start)).isSome = true := by
  decide

theorem witness_NonCanonicalFunctionsOfBoth :
    NoPcOverflow start (jumpHolds .jgt 0x0006#16) ∧ NoPcOverflow (top true) (jumpHolds .never 0x0006#16) ∧
    NoPcOverflow (top false) (jumpHolds .jmp 0x0006#16) ∧
    (nextOf (exec (.compA0C010111 ⟨true, true, true⟩ .jgt) start)).isSome = true ∧ (nextOf (exec (.compA1C010111 ⟨true, true, true⟩ .jgt) start)).isSome = true := by
  decide

/-- c = 010111 with a = 0 computes D+A+1; with D = 2 and A = 3, out = 6 (rule R109). -/
theorem test_noncanonical_example :
    (regsAfter 0b1110010111010000#16 (small 0x0003#16 0x0002#16 0x0000#15)).map (·.d) = some 0x0006#16 := by decide

theorem witness_JumpBitFormula : ¬(true = true ∧ false = true) := by decide

theorem witness_SignedOverflowReversesComparison :
    (small 0xFFFF#16 0x7FFF#16 0x0003#15).regs.d = 0x7FFF#16 ∧ (small 0xFFFF#16 0x7FFF#16 0x0003#15).regs.a = 0xFFFF#16 ∧
    (small 0xFFFF#16 0x7FFF#16 0x0003#15).resetNow = false := by decide

theorem witness_RegisterLoadsAndWriteRequest :
    [0x0064#16, 0xE0B8#16, 0xE080#16].all (fun w => (after w start).isSome) = true := by decide

theorem witness_DestCodes :
    [(0xFDC0#16, 0b000#3), (0xFDC8#16, 0b001#3), (0xFDD0#16, 0b010#3), (0xFDD8#16, 0b011#3), (0xFDE0#16, 0b100#3),
      (0xFDE8#16, 0b101#3), (0xFDF0#16, 0b110#3), (0xFDF8#16, 0b111#3)].all
      (fun c => bit c.1 15 && (c.1.extractLsb' 3 3 == c.2) && (after c.1 start).isSome) = true := by decide

theorem witness_ResetDoesNotEnterLoadsOrPorts :
    (nextOf (exec (.compMPlus1 ⟨true, true, true⟩ .never) { start with resetInputs := [true] })).isSome = true ∧
    (nextOf (exec (.compMPlus1 ⟨true, true, true⟩ .never) { start with resetInputs := [false] })).isSome = true := by decide

/-- A reset, a taken jump and an increment each answer. -/
theorem witness_NextPcPriority :
    (after 0xEA87#16 (top true)).isSome = true ∧
    ((after 0xEA87#16 (top false)).isSome = true ∧ takesJump 0xEA87#16 (top false) = true) ∧
    ((after 0xEA85#16 start).isSome = true ∧ takesJump 0xEA85#16 start = false) ∧
    (start.resetNow = false ∧ (nextOf (exec (decode 0xE327#16) start)).isSome = true) := by decide

theorem witness_PcOverflowIsTheParameter :
    (top false).regs.pc = 0x7FFF#15 ∧ ((top false).resetNow = false ∧ takesJump 0x0064#16 (top false) = false) ∧
    (top true).resetNow = true ∧ takesJump 0xEA87#16 (top false) = true := by decide

theorem witness_AddressInstructionLoadsLiteral :
    NoPcOverflow start false ∧ NoPcOverflow (top true) false ∧
    ((top false).resetNow = false ∧ (top false).regs.pc = 0x7FFF#15) := by decide

theorem witness_AddressInstructionNeverWritesOrJumps : (nextOf (exec (.atValue 0x7FFF#15) start)).isSome = true := by decide

theorem witness_ReloadingTheSameAddress :
    ((nextOf (exec (.atValue 100#15) start)).bind (fun t => (nextOf (exec (.atValue 100#15) t)).bind
      (fun u => nextOf (exec (.compD ⟨false, false, true⟩ .never) u)))).isSome = true := by decide

theorem witness_UnusedOperandHasNoEffect :
    ((bit 0xE0B8#16 15 = true ∧ bit 0xE0B8#16 12 = false) ∧ (after 0xE0B8#16 start).isSome = true ∧
      (after 0xE0B8#16 { start with ram := [] }).isSome = true) ∧
    (bit 0xFDF8#16 12 = true ∧ (after 0xFDF8#16 start).isSome = true ∧
      (after 0xFDF8#16 { start with regs := { start.regs with a := start.regs.a ^^^ 0x8000#16 } }).isSome = true) ∧
    (bit 0x0064#16 15 = false ∧ (after 0x0064#16 start).isSome = true) := by decide

theorem witness_ReadModifyWriteOfOneWord :
    (bit 0xFC88#16 15 && bit 0xFC88#16 12 && bit 0xFC88#16 3 && (after 0xFC88#16 start).isSome) = true ∧
    start.isDevice 0x0003#15 = false := by decide

theorem witness_LoadedAIsNotUsedInItsOwnCycle :
    (bit 0xE32F#16 15 && bit 0xE32F#16 5 && bit 0xE32F#16 3 && takesJump 0xE32F#16 start && !start.resetNow
      && (after 0xE32F#16 start).isSome) = true := by decide

theorem witness_AddressAndWritePortInvariants :
    ((nextOf (exec (.compD ⟨true, false, true⟩ .never) start)).bind
      (fun t => nextOf (exec (.compM ⟨false, true, false⟩ .never) t))).isSome = true := by decide

theorem witness_EveryInstructionCompletes :
    (top true).resetNow = true ∧ (small 0x0003#16 0x0002#16 0x7FFE#15).regs.pc ≠ 0x7FFF#15 := by decide

/-- Each clause of the frame: A kept, D kept, memory kept, memory kept but for A[14:0]. -/
theorem witness_FrameOfEveryInstruction :
    (nextOf (exec (.compMPlus1 ⟨false, false, true⟩ .never) start)).isSome = true ∧
    (bit (encode (.compMPlus1 ⟨false, false, true⟩ .never)) 15 && !bit (encode (.compMPlus1 ⟨false, false, true⟩ .never)) 5
      && !bit (encode (.compMPlus1 ⟨false, false, true⟩ .never)) 4
      && bit (encode (.compMPlus1 ⟨false, false, true⟩ .never)) 3) = true ∧
    (nextOf (exec (.atValue 5#15) start)).isSome = true ∧ bit (encode (.atValue 5#15)) 15 = false := by decide

/-- A state with `@5` and `M=D` loaded at PC. -/
def loaded : State := { start with rom := [(4, 0x0005#16), (5, 0xE308#16)] }

theorem witness_MemoryReadsTheLatestWrite :
    ((cyclesFrom 2 loaded).map (fun r => r.1.length)) = some 2 ∧ loaded.isDevice 0x0005#15 = false ∧
    ((cyclesFrom 2 { loaded with devices := [0x0005#15] }).map (fun r => r.1.length)) = some 2 ∧
    State.isDevice { loaded with devices := [0x0005#15] } 0x0005#15 = true := by decide

theorem witness_StepKeepsMemoriesCanonical : Inv loaded ∧ (nextOf (step loaded)).isSome = true := by decide

theorem witness_ResetMemoriesCanonical : Inv loaded := by decide

theorem witness_InstructionMemoryIsNeverWritten : (nextOf (step loaded)).isSome = true := by decide

theorem witness_MemoryEventsOfACycle :
    (after 0xFDC8#16 start).isSome = true ∧ (after 0x0064#16 start).isSome = true := by decide

theorem witness_ResetCycleRestartsAtZero :
    fetch { loaded with resetInputs := [true] } = some 0x0005#16 ∧
    State.resetNow { loaded with resetInputs := [true] } = true ∧
    (nextOf (exec (decode 0x0005#16) { loaded with resetInputs := [] })).isSome = true ∧
    Memory.fetch? [(0, 0xEA87#16), (4, 0x0005#16)] 0x0000#15 = some 0xEA87#16 := by decide

theorem witness_ConstructZeroesADPcAndResetInputOnlyPc :
    State.resetNow { loaded with resetInputs := [true] } = true ∧
    fetch { loaded with resetInputs := [true] } = some 0x0005#16 ∧
    (nextOf (step { loaded with resetInputs := [false] })).isSome = true := by decide

theorem witness_StepRunsTheDecodedInstruction : loaded.rom.fetch? loaded.regs.pc = some 0x0005#16 := by decide

/-- A run that halts after one cycle, in a state with the PC haltPc. -/
theorem witness_RunHaltsOnlyAtHaltPc :
    (match run 0x0005#15 3 loaded with
      | .halted t => decide (t.regs.pc = 0x0005#15)
      | _ => false) = true := by decide

theorem witness_ExactlyTwoModelFaults :
    (step State.reset = .fault (.fetchUnloaded 0x0000#15) ∧ State.reset.regs.pc ≠ 0x0005#15) ∧
    (match cyclesFrom 2 loaded with
      | some (os, t) =>
        os.all (fun o => decide (o.pc ≠ 0x0009#15)) && decide (t.regs.pc ≠ 0x0009#15) &&
          (match step t with | .fault f => decide (f = .fetchUnloaded 0x0006#15) | _ => false)
      | none => false) = true := ⟨⟨rfl, by decide⟩, by decide⟩

/-- The state `start` with the data address its A holds in the parameter `devices`. -/
def onDevice : State := { start with devices := [0x0003#15] }

/-- D=M at a device address reads the free value of the cycle (decision D7), and the cycle still completes. -/
theorem test_device_read :
    cycleEvents 0xFC10#16 onDevice = [.read 0x0003#15 (Config.deviceWord 0 0x0003#15)] ∧
    inM onDevice = Config.deviceWord 0 0x0003#15 ∧ (after 0xFC10#16 onDevice).isSome = true := ⟨rfl, rfl, by decide⟩

/-- M=D at a device address shows the write on the ports and leaves plain storage as it was (decision D7). -/
theorem test_device_write :
    portsOf 0xE308#16 onDevice = some (some 0x0002#16, 0x0003#15, 0x0004#15) ∧
    (after 0xE308#16 onDevice).map (·.ram.read 0x0003#15) = some 0x0009#16 := by decide

theorem witness_DeviceAddressesBelongToThePlatform :
    onDevice.isDevice (onDevice.regs.a.setWidth 15) = true ∧ (after 0xFC88#16 onDevice).isSome = true ∧
    (bit 0xFC88#16 15 && bit 0xFC88#16 12 && bit 0xFC88#16 3) = true ∧ start.isDevice 0x0003#15 = false := by decide

theorem witness_OneInstructionPerCycle : (cyclesFrom 2 loaded).isSome = true := by decide

end Sys2Proof.Tests
end

section
/-! PROOFS. The output ports a cycle records, and the memory events of a cycle read off them (spec/20_memory.md rule R50). -/

namespace Sys2Proof.Machine

/-- A committed cycle records the ports of its own write. -/
theorem commitCycle_outputs {s t : State} {la ld wr : Option Word} {take : Bool}
    (h : commitCycle s la ld wr take = .next t) : t.outputs = some (outputsOf s wr) := by
  rcases commitCycle_cases s la ld wr take with ⟨hf, -⟩ | hn
  · rw [hf] at h; cases h
  · rw [hn] at h; cases h; rfl

/-- On the harness inputs the ALU of CpuStep computes what `compute` does with the word's fields. -/
theorem cpuResult_harnessInputs (w : Word) (s : State) :
    cpuResult s.regs (harnessInputs w s) = alu (xOperand s) (yOperand (bit w 12) s) (controlField w) := rfl

/-- The output ports of CpuStep in the harness cycle are those of a write where `loadM` is 1 (rules R30 and R201). -/
theorem cpuOutputs_harnessInputs (w : Word) (s : State) :
    cpuOutputs (Config.outMDraw s.cycle) s.regs (harnessInputs w s) =
      outputsOf s (whenSet (signals w).loadM (cpuResult s.regs (harnessInputs w s))) := by
  simp only [outputsOf, whenSet_getD, whenSet_isSome]
  rfl

/-- An executed word records the output ports of CpuStep in the harness cycle. -/
theorem exec_decode_outputs {w : Word} {s t : State} (h : exec (decode w) s = .next t) :
    t.outputs = some (cpuOutputs (Config.outMDraw s.cycle) s.regs (harnessInputs w s)) := by
  rw [cpuOutputs_harnessInputs]
  cases hc : bit w 15 with
  | false =>
    have hM : (signals w).loadM = false := by simp [signals, hc]
    rw [exec_decode_address w s hc] at h
    rw [hM]
    exact commitCycle_outputs h
  | true =>
    have hM : (signals w).loadM = (destField w).toM := by simp [signals, destField, hc]
    rw [exec_decode_compute w s hc] at h
    rw [hM, cpuResult_harnessInputs, ← controlOf_code (controlField w)]
    exact commitCycle_outputs h

/-- Settles O47: the recorded ports are those of CpuStep, from which `cycleEvents` reads the address, `writeM` and `outM`. -/
theorem memoryEventsOfACycle : Obligations.MemoryEventsOfACycle := by
  intro w s t h
  exact ⟨_, exec_decode_outputs h, rfl⟩

end Sys2Proof.Machine
end

section
/-! PROOFS. The fields a word decodes to, the two bits no field reads, and the word the encoder writes back
(spec/30_encoding.md rules R61, R63, R66 and R72). -/

namespace Sys2Proof

/-! The encoder's codes of the fields of a word are the bits of those fields (rule R63). -/

theorem code_controlField (w : Word) : (controlField w).code = w.extractLsb' 6 6 := by
  apply BitVec.eq_of_getLsbD_eq
  intro i hi
  simp only [controlField, Control.code, BitVec.getLsbD_append, BitVec.getLsbD_ofBool, BitVec.getLsbD_extractLsb', bit]
  interval_cases i <;> simp

theorem ofBool_three_bits (w : Word) (start : Nat) :
    BitVec.ofBool (bit w (start + 2)) ++ BitVec.ofBool (bit w (start + 1)) ++ BitVec.ofBool (bit w start) =
      w.extractLsb' start 3 := by
  apply BitVec.eq_of_getLsbD_eq
  intro i hi
  simp only [BitVec.getLsbD_append, BitVec.getLsbD_ofBool, BitVec.getLsbD_extractLsb', bit]
  interval_cases i <;> simp

theorem code_destField (w : Word) : (destField w).code = w.extractLsb' 3 3 := ofBool_three_bits w 3

theorem code_jumpOfBits (b2 b1 b0 : Bool) :
    (jumpOfBits b2 b1 b0).code = BitVec.ofBool b2 ++ BitVec.ofBool b1 ++ BitVec.ofBool b0 := by
  cases b2 <;> cases b1 <;> cases b0 <;> rfl

theorem code_jumpField (w : Word) : (jumpField w).code = w.extractLsb' 0 3 :=
  (code_jumpOfBits _ _ _).trans (ofBool_three_bits w 0)

/-! The word of a C-instruction, decoded and encoded again. -/

/-- Written back, the fields of a word fill bits 12..0; the format sets bits 15..13 (rules R63 and R66). -/
theorem computeWord_fields (w : Word) :
    computeWord (bit w 12) (controlField w).code (destField w) (jumpField w) = w ||| 0xE000#16 := by
  apply BitVec.eq_of_getLsbD_eq
  intro i hi
  refine (bit_computeWord _ _ _ _ i).trans ?_
  rw [code_controlField, code_destField, code_jumpField]
  interval_cases i <;> simp [bit]

theorem encode_decode_compute (w : Word) (h : bit w 15 = true) :
    encode (decode w) = computeWord (bit w 12) (controlField w).code (destField w) (jumpField w) := by
  simp only [decode, h]
  cases bit w 12
  · exact encode_compOfA _ _ _
  · exact encode_compOfM _ _ _

/-! Words that agree outside bits 14..13. -/

theorem bit_or (v w : Word) (i : Nat) : bit (v ||| w) i = (bit v i || bit w i) := BitVec.getLsbD_or

theorem bit_eq_of_or_ignored_eq {w w' : Word} (h : w ||| 0x6000#16 = w' ||| 0x6000#16) {i : Nat}
    (hi : bit 0x6000#16 i = false) : bit w i = bit w' i := by
  have hbit : bit (w ||| 0x6000#16) i = bit (w' ||| 0x6000#16) i := by rw [h]
  simpa only [bit_or, hi, Bool.or_false] using hbit

/-- No decoder output reads bits 14..13, in either class of instruction. -/
theorem signals_eq_of_or_ignored_eq {w w' : Word} (h : w ||| 0x6000#16 = w' ||| 0x6000#16) :
    signals w = signals w' := by
  have hbit (i : Nat) (hi : bit 0x6000#16 i = false) : bit w i = bit w' i := bit_eq_of_or_ignored_eq h hi
  simp only [signals, controlField, jumpField, hbit 15 rfl, hbit 12 rfl, hbit 11 rfl, hbit 10 rfl, hbit 9 rfl,
    hbit 8 rfl, hbit 7 rfl, hbit 6 rfl, hbit 5 rfl, hbit 4 rfl, hbit 3 rfl, hbit 2 rfl, hbit 1 rfl, hbit 0 rfl]

/-- A C-instruction is fixed by the decoder's outputs, whose load signals are then its dest bits (rule R64). -/
theorem decode_eq_of_signals_eq {w w' : Word} (hc : bit w 15 = true) (h : signals w = signals w') :
    decode w = decode w' := by
  simp only [signals, Signals.mk.injEq] at h
  obtain ⟨h15, ha, hcontrol, hA, hD, hM, hjump⟩ := h
  have hc' : bit w' 15 = true := h15 ▸ hc
  have hdest : destField w = destField w' := by
    simp only [hc, hc', Bool.not_true, Bool.false_or, Bool.true_and] at hA hD hM
    simp only [destField, hA, hD, hM]
  simp only [decode, hc, hc', ha, hcontrol, hdest, hjump]

/-- Settles O3: the words give the same decoder outputs, which fix a C-instruction; what it decodes to is encoded field by
field. -/
theorem ignoredBitsTakeNoPart : Obligations.IgnoredBitsTakeNoPart := by
  intro w w' hc h
  have hs : signals w = signals w' := signals_eq_of_or_ignored_eq h
  have hd : decode w = decode w' := decode_eq_of_signals_eq hc hs
  exact ⟨hs, hd, fun s => by rw [hd], (encode_decode_compute w hc).trans (computeWord_fields w)⟩

/-- Bit 15 of the encoding tells an A-instruction from what a C-instruction word decodes to. -/
theorem decode_compute_ne_atValue {w : Word} (hc : bit w 15 = true) (v : Addr) : decode w ≠ .atValue v := by
  intro hv
  have henc : computeWord (bit w 12) (controlField w).code (destField w) (jumpField w) = 0b0#1 ++ v := by
    rw [← encode_decode_compute w hc, hv]; rfl
  have h15 := congrArg (bit · 15) henc
  simp only [bit15_computeWord, bit15_literal, Bool.true_eq_false] at h15

theorem decode_address (w : Word) (hc : bit w 15 = false) : decode w = .atValue (literalField w) := by
  simp only [decode, hc]

theorem literalField_eq_extractLsb' (w : Word) : literalField w = w.extractLsb' 0 15 :=
  BitVec.setWidth_eq_extractLsb' (by decide)

/-- Settles O4: by the two classes of the decoder. -/
theorem classIsBit15 : Obligations.ClassIsBit15 := by
  intro w
  refine ⟨rfl, fun hc => ?_, fun hc v => decode_compute_ne_atValue hc v⟩
  rw [decode_address w hc, literalField_eq_extractLsb']

/-- Settles O5: the first two words by evaluation; 0x8308 is 0xE308 without its ignored bits (rule R66). -/
theorem workedDecodeExamples : Obligations.WorkedDecodeExamples := by
  obtain ⟨hs, hd, -, -⟩ := ignoredBitsTakeNoPart 0x8308#16 0xE308#16 rfl rfl
  exact ⟨rfl, ⟨rfl, rfl, rfl, rfl⟩, rfl, rfl, hd, hs⟩

end Sys2Proof
end

section
/-! PROOFS. The flags of the ALU result, read as the sign of its signed value (spec/40_alu.md rules R83 to R85). -/

namespace Sys2Proof.Machine

theorem zr_iff_eq_zero (out : Word) : zr out = true ↔ out = 0x0000#16 := beq_iff_eq

theorem zr_iff_toInt_eq_zero (out : Word) : zr out = true ↔ out.toInt = 0 := by
  rw [zr_iff_eq_zero, ← BitVec.toInt_inj, BitVec.toInt_zero]

/-- Bit 15 is the sign bit of a word (rule R84). -/
theorem ng_iff_toInt_neg (out : Word) : ng out = true ↔ out.toInt < 0 := by
  have hmsb : ng out = out.msb := (BitVec.msb_eq_getLsbD_last out).symm
  rw [hmsb, BitVec.msb_eq_toInt, decide_eq_true_iff]

/-- Settles O7: `zr` and `ng` are the signed tests `out = 0` and `out < 0`, of which at most one holds (rule R85). -/
theorem flagsOfTheResult : Obligations.FlagsOfTheResult := by
  intro out
  have hz : zr out = true ↔ out.toInt = 0 := zr_iff_toInt_eq_zero out
  have hn : ng out = true ↔ out.toInt < 0 := ng_iff_toInt_neg out
  refine ⟨zr_iff_eq_zero out, rfl, hn, ?_⟩
  simp only [← Bool.not_eq_true, hz, hn]
  omega

end Sys2Proof.Machine
end

section
/-! PROOFS. The bits of the jump code, read as the table's answers on the reachable pairs of flags, and the bit formula
built from them (spec/41_jump.md rules R120 and R130). -/

namespace Sys2Proof.Machine

/-- Bit 2 of the code is the table's answer to a negative result. -/
theorem jumpCond_of_negative (j : Jump) : jumpCond j false true = j.code.getLsbD 2 := by
  cases j <;> rfl

/-- Bit 1 of the code is the table's answer to a zero result. -/
theorem jumpCond_of_zero (j : Jump) : jumpCond j true false = j.code.getLsbD 1 := by
  cases j <;> rfl

/-- Bit 0 of the code is the table's answer to a positive result. -/
theorem jumpCond_of_positive (j : Jump) : jumpCond j false false = j.code.getLsbD 0 := by
  cases j <;> rfl

/-- On the unreachable pair the formula is `j2 || j1`; the table's `!zr` for code 101 does not look at `ng` (rule R126). -/
theorem jumpCond_true_true_ne_iff (j : Jump) :
    jumpCond j true true ≠ (j.code.getLsbD 2 || j.code.getLsbD 1) ↔ j = .jne := by
  cases j <;> decide

/-- Settles O25: each reachable pair of flags leaves one term of the formula, the bit that answers it in the table. -/
theorem jumpBitFormula : Obligations.JumpBitFormula := by
  intro j zr ng
  refine ⟨fun hreach => ?_, by simpa using jumpCond_true_true_ne_iff j, rfl⟩
  match zr, ng with
  | false, false => simp [jumpCond_of_positive]
  | false, true => simp [jumpCond_of_negative]
  | true, false => simp [jumpCond_of_zero]
  | true, true => exact absurd ⟨rfl, rfl⟩ hreach

end Sys2Proof.Machine
end

section
/-! PROOFS. The two shapes of a cycle, and the clock edge apart from PC, which the reset input does not enter
(spec/42_register_file.md rule R144). -/

namespace Sys2Proof.Machine

/-- Every instruction is the A-instruction or the shared `compute` at its own comp bits (rules R170 and R180). -/
theorem exec_eq_execAtValue_or_compute (i : Instr) :
    (∃ v, ∀ s, exec i s = execAtValue v s) ∨ ∃ a c d j, ∀ s, exec i s = compute a c d j s := by
  cases i with
  | atValue v => exact .inl ⟨v, fun _ => rfl⟩
  | _ d j => exact .inr ⟨_, _, d, j, fun _ => rfl⟩

/-- What a cycle asks of the clock edge, its loads, write and jump, does not depend on the reset inputs. -/
theorem exec_eq_commitCycle_of_any_reset (i : Instr) (s : State) :
    ∃ la ld wr take, ∀ resets, exec i { s with resetInputs := resets } =
      commitCycle { s with resetInputs := resets } la ld wr take := by
  rcases exec_eq_execAtValue_or_compute i with ⟨v, hi⟩ | ⟨a, c, d, j, hi⟩
  · exact ⟨some (zext16 v), none, none, false, fun _ => hi _⟩
  · let out := alu (xOperand s) (yOperand a s) (controlOf c)
    exact ⟨whenSet d.toA out, whenSet d.toD out, whenSet d.toM out, jumpCond j (zr out) (ng out), fun _ => hi _⟩

/-- Apart from PC, for which `pc` is put, what the clock edge leaves depends on neither this cycle's reset input nor the
jump. -/
theorem commitCycle_next_apart_from_pc {s t : State} {la ld wr : Option Word} {take : Bool}
    (h : commitCycle s la ld wr take = .next t) (pc : Addr) :
    { t with regs := { t.regs with pc := pc } } =
      ((storeIf s wr).setRegs { a := cellNext la s.regs.a, d := cellNext ld s.regs.d, pc := pc }).tick
        (outputsOf s wr) := by
  rcases commitCycle_cases s la ld wr take with ⟨hf, -⟩ | hn
  · rw [hf] at h; cases h
  · rw [hn] at h; cases h
    cases wr <;> rfl

/-- Settles O29: both cycles reach the clock edge with the same requests, and apart from PC it answers them from the state
both cycles share. -/
theorem resetDoesNotEnterLoadsOrPorts : Obligations.ResetDoesNotEnterLoadsOrPorts := by
  intro i s t t' later h h'
  obtain ⟨la, ld, wr, take, hi⟩ := exec_eq_commitCycle_of_any_reset i s
  rw [hi] at h h'
  rw [commitCycle_next_apart_from_pc h, commitCycle_next_apart_from_pc h']
  cases wr <;> rfl

end Sys2Proof.Machine
end

section
/-! PROOFS. The clock edge a word asks for: its loads and its write from bits 15 and 5..3, its jump as `takesJump` tests
it (spec/42_register_file.md rules R141 to R143, spec/41_jump.md rules R120 to R129). -/

namespace Sys2Proof.Machine

open Safety

/-- On the flags of a result the JumpConditionUnit is the signed test of its code (rules R83, R84 and R120). -/
theorem jumpCond_flags (j : Jump) (out : Word) : jumpCond j (zr out) (ng out) = jumpHolds j out := by
  have hz : zr out = decide (out.toInt = 0) := by rw [Bool.eq_iff_iff, zr_iff_toInt_eq_zero, decide_eq_true_iff]
  have hn : ng out = decide (out.toInt < 0) := by rw [Bool.eq_iff_iff, ng_iff_toInt_neg, decide_eq_true_iff]
  rw [hz, hn, Bool.eq_iff_iff]
  cases j <;> simp [jumpCond, jumpHolds] <;> omega

/-- The word of an A-instruction is its literal, zero-extended (rule R65). -/
theorem zext16_literalField {w : Word} (h : bit w 15 = false) : zext16 (literalField w) = w := by
  apply BitVec.eq_of_getLsbD_eq
  intro i hi
  simp only [zext16, literalField, BitVec.getLsbD_setWidth, hi, decide_true, Bool.true_and]
  rcases Nat.lt_or_ge i 15 with hlt | hge
  · simp [hlt]
  · obtain rfl : i = 15 := by omega
    simpa [bit] using h.symm

/-- What `exec` of a decoded word asks of the clock edge. -/
theorem exec_decode_eq_commitCycle (w : Word) (s : State) :
    exec (decode w) s =
      commitCycle s (if bit w 15 then whenSet (bit w 5) (resultOf w s) else some w)
        (whenSet (bit w 15 && bit w 4) (resultOf w s)) (whenSet (bit w 15 && bit w 3) (resultOf w s))
        (takesJump w s) := by
  cases hc : bit w 15 with
  | false =>
    rw [exec_decode_address w s hc, execAtValue, zext16_literalField hc]
    simp [takesJump, hc, whenSet]
  | true =>
    have hout : alu (xOperand s) (yOperand (bit w 12) s) (controlField w) = resultOf w s := rfl
    rw [exec_decode_compute w s hc, compute, controlOf_code, hout, jumpCond_flags]
    simp [takesJump, hc, destField]

/-- The registers a committed cycle leaves. -/
theorem commitCycle_regs {s t : State} {la ld wr : Option Word} {take : Bool}
    (h : commitCycle s la ld wr take = .next t) :
    t.regs =
      { a := cellNext la s.regs.a
        d := cellNext ld s.regs.d
        pc := if s.resetNow then 0x0000#15 else if take then jumpTarget s else s.regs.pc + 1 } := by
  rcases commitCycle_cases s la ld wr take with ⟨hf, -⟩ | hn
  · rw [hf] at h; cases h
  · rw [hn] at h; cases h; rfl

end Sys2Proof.Machine
end

section
/-! PROOFS. The next PC: its priority order, and the increment from 0x7FFF (spec/43_program_counter.md). -/

namespace Sys2Proof.Machine

open Safety

/-- Control bits 001100 pass D, whatever y is (rule R94). -/
theorem resultOf_of_control_001100 {w : Word} (s : State)
    (h : controlField w = ⟨false, false, true, true, false, false⟩) : resultOf w s = s.regs.d := by
  simp only [resultOf, h, alu, aluInput, Bool.false_eq_true, if_true, if_false, BitVec.not_zero, BitVec.and_allOnes]

/-- Settles O30: the clock edge takes the next PC in this order, and A=D;JMP asks it for the jump and for D in A. -/
theorem nextPcPriority : Obligations.NextPcPriority := by
  refine ⟨fun w s t h => ?_, fun s t hr h => ?_⟩
  · rw [exec_decode_eq_commitCycle] at h
    rw [commitCycle_regs h]
    rfl
  · have ht : takesJump 0xE327#16 s = true := rfl
    have hout : resultOf 0xE327#16 s = s.regs.d := resultOf_of_control_001100 s rfl
    rw [exec_decode_eq_commitCycle] at h
    rw [commitCycle_regs h, hr, ht]
    exact ⟨rfl, hout⟩

/-- Under `fault` an increment from 0x7FFF commits nothing. -/
theorem commitCycle_overflow_of_fault {s : State} (la ld wr : Option Word) (hc : Config.pcOverflow = .fault)
    (hr : s.resetNow = false) (hp : s.regs.pc = 0x7FFF#15) : commitCycle s la ld wr false = .fault .pcOverflow := by
  simp only [commitCycle, hc, hr, hp]
  rfl

/-- Under `wrap` an increment from 0x7FFF leaves PC = 0. -/
theorem commitCycle_overflow_of_wrap {s : State} (la ld wr : Option Word) (hc : Config.pcOverflow = .wrap)
    (hr : s.resetNow = false) (hp : s.regs.pc = 0x7FFF#15) :
    ∃ t, commitCycle s la ld wr false = .next t ∧ t.regs.pc = 0x0000#15 := by
  rcases commitCycle_cases s la ld wr false with ⟨-, -, -, -, hf⟩ | hn
  · rw [hc] at hf; cases hf
  · refine ⟨_, hn, ?_⟩
    simp only [hr, hp]
    rfl

/-- Settles O31: without reset and jump the clock edge increments PC as the parameter says; with either it completes. -/
theorem pcOverflowIsTheParameter : Obligations.PcOverflowIsTheParameter := by
  intro w s hp
  rw [exec_decode_eq_commitCycle]
  refine ⟨fun ⟨hr, ht⟩ => ?_, fun h => ⟨_, commitCycle_next s _ _ _ (h.imp_right .inl)⟩⟩
  rw [ht]
  cases hc : Config.pcOverflow with
  | wrap => exact commitCycle_overflow_of_wrap _ _ _ hc hr hp
  | fault => exact commitCycle_overflow_of_fault _ _ _ hc hr hp

end Sys2Proof.Machine
end

section
/-! PROOFS. The A-instruction: what its cycle leaves, and the address it presents to the cycles after it
(spec/44_address_instruction.md rules R171 and R173). -/

namespace Sys2Proof.Machine

/-- The data memory a committed cycle leaves. -/
theorem commitCycle_ram {s t : State} {la ld wr : Option Word} {take : Bool}
    (h : commitCycle s la ld wr take = .next t) : t.ram = (storeIf s wr).ram := by
  rcases commitCycle_cases s la ld wr take with ⟨hf, -⟩ | hn
  · rw [hf] at h; cases h
  · rw [hn] at h; cases h; rfl

/-- The address bits of a zero-extended literal are the literal. -/
theorem trunc15_zext16 (v : Addr) : trunc15 (zext16 v) = v := BitVec.setWidth_setWidth_of_le v (by decide)

/-- The registers the cycle of `@v` leaves: the literal in A, D as before, PC at 0 on reset, else the next one. -/
theorem exec_atValue_regs {v : Addr} {s t : State} (h : exec (.atValue v) s = .next t) :
    t.regs = { a := zext16 v, d := s.regs.d, pc := if s.resetNow then 0x0000#15 else s.regs.pc + 1 } :=
  commitCycle_regs h

/-- After the cycle of `@v`, A is the literal under a zero bit 15 (rule R65). -/
theorem a_of_exec_atValue {v : Addr} {s t : State} (h : exec (.atValue v) s = .next t) : t.regs.a = 0b0#1 ++ v := by
  rw [exec_atValue_regs h, literal_eq_zext, zext16]

/-- After the cycle of `@v` the data address is v. -/
theorem addressM_of_exec_atValue {v : Addr} {s t : State} (h : exec (.atValue v) s = .next t) : addressM t = v := by
  rw [addressM, exec_atValue_regs h, trunc15_zext16]

/-- The address port of a cycle is A[14:0] of the pre-commit A, whatever the instruction (rule R208). -/
theorem exec_outputs_addressM {i : Instr} {s t : State} (h : exec i s = .next t) :
    t.outputs.map (·.addressM) = some (addressM s) := by
  rcases exec_eq_execAtValue_or_compute i with ⟨v, hi⟩ | ⟨a, c, d, j, hi⟩
  · rw [hi, execAtValue] at h
    rw [commitCycle_outputs h]
    rfl
  · rw [hi, compute] at h
    rw [commitCycle_outputs h]
    rfl

/-- Settles O34: each cycle puts v in A, and every cycle shows on its address port the A of the state it starts from. -/
theorem reloadingTheSameAddress : Obligations.ReloadingTheSameAddress := by
  intro v s t u ht hu
  refine ⟨a_of_exec_atValue ht, a_of_exec_atValue hu, exec_outputs_addressM ht, ?_, fun i r hr => ?_⟩
  · rw [exec_outputs_addressM hu, addressM_of_exec_atValue ht]
  · rw [exec_outputs_addressM hr, addressM_of_exec_atValue hu]

/-- Settles O33: `@v` asks the clock edge for a load of A alone, with no write and no jump. -/
theorem addressInstructionNeverWritesOrJumps : Obligations.AddressInstructionNeverWritesOrJumps := by
  intro v s t h
  have hregs := exec_atValue_regs h
  have hports : t.outputs = some (outputsOf s none) := commitCycle_outputs h
  refine ⟨⟨commitCycle_ram h, ?_⟩, ?_, ?_⟩
  · rw [hports]; rfl
  · rw [hregs]
  · rw [hregs]

end Sys2Proof.Machine
end

section
/-! PROOFS. The C-instruction that reads and writes the same data word (spec/45_compute_instruction.md rule R183). -/

namespace Sys2Proof.Machine

open Safety

/-- A committed cycle keeps the parameter devices. -/
theorem commitCycle_devices {s t : State} {la ld wr : Option Word} {take : Bool}
    (h : commitCycle s la ld wr take = .next t) : t.devices = s.devices := by
  rcases commitCycle_cases s la ld wr take with ⟨hf, -⟩ | hn
  · rw [hf] at h; cases h
  · rw [hn] at h; cases h; rfl

/-- What plain storage holds after a cycle that writes: the word written at `addressM` if that is no device, the old word
elsewhere (rule R48). -/
theorem commitCycle_ram_read {s t : State} {la ld : Option Word} {v : Word} {take : Bool}
    (h : commitCycle s la ld (some v) take = .next t) (p : Addr) :
    t.ram.read p = if s.isDevice (addressM s) = false ∧ addressM s = p then v else s.ram.read p := by
  rw [commitCycle_ram h]
  exact State.store_read s (addressM s) p v

/-- After a cycle that writes to plain storage the next cycle reads the word written (rule R49). -/
theorem commitCycle_dataWord_addressM {s t : State} {la ld : Option Word} {v : Word} {take : Bool}
    (h : commitCycle s la ld (some v) take = .next t) (hs : s.isDevice (addressM s) = false) :
    t.dataWord (addressM s) = v := by
  have ht : t.isDevice (addressM s) = false := (State.isDevice_congr (commitCycle_devices h) _).trans hs
  rw [State.dataWord_storage t _ ht, commitCycle_ram_read h, if_pos ⟨hs, rfl⟩]

/-- With a = 1 the ALU's y operand is the data word at A[14:0] of the pre-commit state (rule R181). -/
theorem resultOf_of_readsM {w : Word} (s : State) (h : bit w 12 = true) :
    resultOf w s = alu s.regs.d (s.dataWord (s.regs.a.setWidth 15)) (controlField w) := by
  rw [resultOf, if_pos h]

/-- Settles O36: the cycle asks the clock edge for a write of the result, which is computed from the old word. -/
theorem readModifyWriteOfOneWord : Obligations.ReadModifyWriteOfOneWord := by
  intro w s t hc ha hM h
  have hwr : whenSet (bit w 15 && bit w 3) (resultOf w s) = some (resultOf w s) := by rw [hc, hM]; rfl
  rw [exec_decode_eq_commitCycle, hwr] at h
  rw [← resultOf_of_readsM s ha]
  refine ⟨?_, commitCycle_dataWord_addressM h, fun p hp => ?_⟩
  · rw [commitCycle_outputs h]; rfl
  · rw [commitCycle_ram_read h, if_neg fun hw => hp hw.2.symm]

end Sys2Proof.Machine
end

section
/-! PROOFS. Every instruction is what its word decodes to, so what holds of the cycle of a word holds of the cycle of an
instruction; its output ports (spec/46_cpu_step.md rules R208 and R209). -/

namespace Sys2Proof

/-- The decoder reads an instruction back from its word, by the two formats (rules R62 and R63). -/
theorem decode_encode (i : Instr) : decode (encode i) = i := by
  cases i with
  | atValue v => exact decode_literal v
  | _ d j => exact decode_computeWord _ _ d j

namespace Machine

/-- An executed instruction records the output ports of CpuStep in the harness cycle on its word. -/
theorem exec_outputs {i : Instr} {s t : State} (h : exec i s = .next t) :
    t.outputs = some (cpuOutputs (Config.outMDraw s.cycle) s.regs (harnessInputs (encode i) s)) := by
  rw [← decode_encode i] at h
  exact exec_decode_outputs h

/-- Settles O39: the ports of CpuStep show A[14:0] and PC of the pre-commit registers and `loadM` of the word; the next cycle
starts from the new A. -/
theorem addressAndWritePortInvariants : Obligations.AddressAndWritePortInvariants := by
  intro i s t h
  have hports := exec_outputs h
  exact ⟨⟨_, hports, rfl, rfl, rfl⟩, fun i' u hu => exec_outputs_addressM hu⟩

end Machine
end Sys2Proof
end

section
/-! PROOFS. What a step can answer, and a run over completed cycles (spec/60_exceptions.md rule R222,
spec/92_eei_decisions.md decision D11). -/

namespace Sys2Proof.Machine

open Safety

/-- A fetch from an UNLOADED address faults with the current PC (rule R48). -/
theorem step_of_fetch_none {s : State} (h : fetch s = none) : step s = .fault (.fetchUnloaded s.regs.pc) := by
  simp only [step, h]

/-- A step that fetches a word executes what it decodes to. -/
theorem step_of_fetch_some {s : State} {w : Word} (h : fetch s = some w) : step s = exec (decode w) s := by
  simp only [step, h]

/-- Everything an executed word can answer: a next state, or the fault of an increment from 0x7FFF under `fault`. -/
theorem exec_decode_cases (w : Word) (s : State) :
    (∃ t, exec (decode w) s = .next t) ∨
      (exec (decode w) s = .fault .pcOverflow ∧ Config.pcOverflow = .fault ∧ s.regs.pc = 0x7FFF#15 ∧
        s.resetNow = false ∧ takesJump w s = false) := by
  rw [exec_decode_eq_commitCycle]
  rcases commitCycle_cases s _ _ _ (takesJump w s) with ⟨hf, hr, ht, hp, hc⟩ | hn
  · exact .inr ⟨hf, hc, hp, hr, ht⟩
  · exact .inl ⟨_, hn⟩

/-- The ports of a cycle show the PC it started from (rule R30). -/
theorem step_outputs_pc {s t : State} {o : Outputs} (h : step s = .next t) (ho : t.outputs = some o) :
    o.pc = s.regs.pc := by
  obtain ⟨w, -, hw⟩ := step_next h
  rw [exec_decode_outputs hw] at ho
  cases ho
  rfl

/-- The first of n + 1 completed cycles, apart from the n after it. -/
theorem cyclesFrom_succ {n : Nat} {s u : State} {os : List Outputs} (h : cyclesFrom (n + 1) s = some (os, u)) :
    ∃ t o os', step s = .next t ∧ t.outputs = some o ∧ cyclesFrom n t = some (os', u) ∧ os = o :: os' := by
  rw [cyclesFrom] at h
  split at h
  next t ht =>
    split at h
    next o os' u' ho hn =>
      cases h
      exact ⟨t, o, os', ht, ho, hn, rfl⟩
    next => cases h
  next => cases h
  next => cases h

/-- A run whose PC is not `haltPc` takes the next step. -/
theorem run_succ_of_next {haltPc : Addr} {s t : State} (fuel : Nat) (hp : s.regs.pc ≠ haltPc) (h : step s = .next t) :
    run haltPc (fuel + 1) s = run haltPc fuel t := by
  simp only [run, if_neg hp, h]

/-- A run that meets a fault where PC is not `haltPc` ends faulted. -/
theorem run_succ_of_fault {haltPc : Addr} {s : State} {f : Fault} (fuel : Nat) (hp : s.regs.pc ≠ haltPc)
    (h : step s = .fault f) : run haltPc (fuel + 1) s = .faulted f := by
  simp only [run, if_neg hp, h]

/-- Cycles that complete with PC = `haltPc` in none of them are passed by a run, one of its fuel for each. -/
theorem run_add_of_cyclesFrom {n : Nat} {s t : State} {os : List Outputs} {haltPc : Addr} (fuel : Nat)
    (h : cyclesFrom n s = some (os, t)) (hos : ∀ o ∈ os, o.pc ≠ haltPc) :
    run haltPc (n + fuel) s = run haltPc fuel t := by
  induction n generalizing s os with
  | zero =>
    cases h
    rw [Nat.zero_add]
  | succ n ih =>
    obtain ⟨s', o, os', hs, ho, hn, rfl⟩ := cyclesFrom_succ h
    obtain ⟨hpc, hos'⟩ := List.forall_mem_cons.mp hos
    rw [step_outputs_pc hs ho] at hpc
    calc run haltPc (n + 1 + fuel) s
      _ = run haltPc (n + fuel + 1) s := by rw [Nat.add_right_comm]
      _ = run haltPc (n + fuel) s' := run_succ_of_next _ hpc hs
      _ = run haltPc fuel t := ih hn hos'

/-- Settles O41: a step faults at the fetch or at the clock edge of the fetched word; a run passes the completed cycles
and ends at the fault. -/
theorem exactlyTwoModelFaults : Obligations.ExactlyTwoModelFaults := by
  intro s
  refine ⟨?_, fun n fuel os t f haltPc h hos hp hf => ?_⟩
  · cases hw : fetch s with
    | none => exact .inl ⟨rfl, step_of_fetch_none hw⟩
    | some w =>
      rw [step_of_fetch_some hw]
      exact .inr ⟨w, rfl, exec_decode_cases w s⟩
  · rw [Nat.add_assoc, run_add_of_cyclesFrom (fuel + 1) h hos]
    exact run_succ_of_fault fuel hp hf

end Sys2Proof.Machine
end

section
/-! PROOFS. Instruction memory, which no cycle writes; the cycle with reset = 1 and the start after construct
(spec/70_reset_and_hazards.md rules R252, R253 and R258). -/

namespace Sys2Proof.Machine

open Safety

/-- A committed cycle keeps the instruction memory. -/
theorem commitCycle_rom {s t : State} {la ld wr : Option Word} {take : Bool}
    (h : commitCycle s la ld wr take = .next t) : t.rom = s.rom := by
  rcases commitCycle_cases s la ld wr take with ⟨hf, -⟩ | hn
  · rw [hf] at h; cases h
  · rw [hn] at h; cases h; rfl

/-- A step that answers a next state keeps the instruction memory (rule R56). -/
theorem step_rom {s t : State} (h : step s = .next t) : t.rom = s.rom := by
  obtain ⟨w, -, hw⟩ := step_next h
  rw [exec_decode_eq_commitCycle] at hw
  exact commitCycle_rom hw

/-- Settles O46: a step ends in the clock edge, which keeps the instruction memory as a list, hence at every address. -/
theorem instructionMemoryIsNeverWritten : Obligations.InstructionMemoryIsNeverWritten := by
  intro s t h
  have hrom : t.rom = s.rom := step_rom h
  exact ⟨hrom, fun p => by rw [hrom]⟩

/-- The registers the cycle of a word leaves: A and D as bits 15, 5 and 4 say, PC in the order of rule R160. -/
theorem exec_decode_regs {w : Word} {s t : State} (h : exec (decode w) s = .next t) :
    t.regs =
      { a := if bit w 15 then (if bit w 5 then resultOf w s else s.regs.a) else w
        d := if bit w 15 && bit w 4 then resultOf w s else s.regs.d
        pc := if s.resetNow then 0x0000#15 else if takesJump w s then jumpTarget s else s.regs.pc + 1 } := by
  rw [exec_decode_eq_commitCycle] at h
  rw [commitCycle_regs h, apply_ite (cellNext · s.regs.a), cellNext_whenSet, cellNext_some, cellNext_whenSet]

/-- A', D' and data memory of a cycle do not depend on the reset inputs (rule R144). -/
theorem exec_loads_eq_of_any_reset {i : Instr} {s t t' : State} {resets : List Bool} (h : exec i s = .next t)
    (h' : exec i { s with resetInputs := resets } = .next t') :
    t.regs.a = t'.regs.a ∧ t.regs.d = t'.regs.d ∧ t.ram = t'.ram := by
  obtain ⟨la, ld, wr, take, hi⟩ := exec_eq_commitCycle_of_any_reset i s
  have hs : commitCycle s la ld wr take = .next t := (hi s.resetInputs).symm.trans h
  rw [hi resets] at h'
  rw [commitCycle_regs hs, commitCycle_regs h', commitCycle_ram hs, commitCycle_ram h']
  cases wr <;> exact ⟨rfl, rfl, rfl⟩

/-- A cycle with reset = 1 completes on any word, and leaves PC = 0 with the loads of A and D that the word asks for. -/
theorem exec_decode_of_reset (w : Word) {s : State} (hr : s.resetNow = true) :
    ∃ t, exec (decode w) s = .next t ∧ t.regs =
      { a := if bit w 15 then (if bit w 5 then resultOf w s else s.regs.a) else w
        d := if bit w 15 && bit w 4 then resultOf w s else s.regs.d
        pc := 0x0000#15 } := by
  rcases exec_decode_cases w s with ⟨t, ht⟩ | ⟨-, -, -, hr', -⟩
  · exact ⟨t, ht, by rw [exec_decode_regs ht, if_pos hr]⟩
  · rw [hr] at hr'; cases hr'

/-- Settles O48: the cycle with reset = 1 completes with PC = 0 and instruction memory kept, so the next fetch reads the
word at address 0. -/
theorem resetCycleRestartsAtZero : Obligations.ResetCycleRestartsAtZero := by
  intro s w hf hr
  obtain ⟨t, ht, hregs⟩ := exec_decode_of_reset w hr
  have hstep : step s = .next t := (step_of_fetch_some hf).trans ht
  have hpc : t.regs.pc = 0x0000#15 := by rw [hregs]
  refine ⟨t, hstep, hpc, fun t' h' => exec_loads_eq_of_any_reset ht h', fun w0 hw0 => ?_⟩
  have hfetch : fetch t = some w0 := by rw [fetch, step_rom hstep, hpc, hw0]
  exact step_of_fetch_some hfetch

/-- A word the host places where the next step fetches is the word the next step fetches. -/
theorem fetch_withFetchWord (s : State) (w : Word) : fetch (s.withFetchWord 16 w.toNat) = some w := by
  rw [State.withFetchWord, if_pos ⟨le_rfl, w.isLt⟩]
  simp [fetch, Memory.fetch?_load]

/-- A cold launch on `AD=1` whose first cycle has reset = 1. -/
def resetWhileLoadingAD : State := launchCold [(0, 0xEFF0#16)] [] [] [true]

/-- The reset input clears neither A nor D where the word of its cycle loads them: `AD=1` leaves 1 in both. -/
theorem step_resetWhileLoadingAD :
    ∃ t, step resetWhileLoadingAD = .next t ∧ t.regs = { a := 0x0001#16, d := 0x0001#16, pc := 0x0000#15 } := by
  have hf : fetch resetWhileLoadingAD = some 0xEFF0#16 := rfl
  have hr : resetWhileLoadingAD.resetNow = true := rfl
  obtain ⟨t, ht, hregs⟩ := exec_decode_of_reset 0xEFF0#16 hr
  exact ⟨t, (step_of_fetch_some hf).trans ht, hregs⟩

/-- Settles O49: construct is the cold start, and a cycle with reset = 1 loads A and D as with reset = 0; `AD=1` shows
that it can leave both not zero. -/
theorem constructZeroesADPcAndResetInputOnlyPc : Obligations.ConstructZeroesADPcAndResetInputOnlyPc := by
  refine ⟨rfl, fun w => step_of_fetch_some (fetch_withFetchWord _ w), fun s w hr hf => ?_, ?_⟩
  · obtain ⟨t, ht, hregs⟩ := exec_decode_of_reset w hr
    refine ⟨t, (step_of_fetch_some hf).trans ht, by rw [hregs], by rw [hregs], by rw [hregs], fun t' h' => ?_⟩
    have hf' : fetch { s with resetInputs := false :: s.resetInputs.tail } = some w := hf
    rw [step_of_fetch_some hf'] at h'
    exact exec_loads_eq_of_any_reset ht h'
  · obtain ⟨t, ht, hregs⟩ := step_resetWhileLoadingAD
    refine ⟨resetWhileLoadingAD, t, rfl, ht, ?_⟩
    rw [hregs]
    decide

end Sys2Proof.Machine
end

section
/-! PROOFS. The two directions of decoding and encoding (spec/30_encoding.md rules R62, R63 and R66, decision D14). -/

namespace Sys2Proof

/-- Settles O1: the decoder reads each field back from the format that wrote it. -/
theorem decodeOfEncodeIsIdentity : Obligations.DecodeOfEncodeIsIdentity := decode_encode

/-- Where bit 15 is set already, the format's bits 15..13 add no more than the two ignored bits. -/
theorem or_format_bits_of_compute {w : Word} (h : bit w 15 = true) : w ||| 0xE000#16 = w ||| 0x6000#16 := by
  apply BitVec.eq_of_getLsbD_eq
  intro i hi
  rw [BitVec.getLsbD_or, BitVec.getLsbD_or]
  rcases eq_or_ne i 15 with rfl | hne
  · have h15 : w.getLsbD 15 = true := h
    rw [h15]; rfl
  · have hlow : i < 15 := by omega
    interval_cases i <;> rfl

/-- Settles O2: an A-instruction word is its literal, and of a C-instruction word the fields are written back. -/
theorem encodeOfDecodeSetsOnlyIgnoredBits : Obligations.EncodeOfDecodeSetsOnlyIgnoredBits := by
  intro w
  cases hc : bit w 15 with
  | false =>
    have hd : decode w = .atValue (literalField w) := by simp only [decode, hc]
    calc encode (decode w)
      _ = 0b0#1 ++ literalField w := by rw [hd]; rfl
      _ = Machine.zext16 (literalField w) := literal_eq_zext _
      _ = w := Machine.zext16_literalField hc
  | true =>
    rw [encode_decode_compute w hc, computeWord_fields, or_format_bits_of_compute hc]
    rfl

end Sys2Proof
end

section
/-! PROOFS. The canonical form of the memories, which every cycle and the host's load of a word keep (spec/20_memory.md
rule R40). -/

namespace Sys2Proof.Machine

open Safety

/-- The write of a cycle, if there is one, keeps the data memory canonical. -/
theorem storeIf_ram_wf {s : State} (write : Option Word) (h : s.ram.wf = true) : (storeIf s write).ram.wf = true := by
  cases write with
  | none => exact h
  | some v =>
    rw [storeIf, State.store_ram]
    split
    · exact h
    · exact Memory.wf_write _ v h

/-- A committed cycle keeps the canonical form. -/
theorem commitCycle_keeps_inv {s t : State} {la ld wr : Option Word} {take : Bool} (hs : Inv s)
    (h : commitCycle s la ld wr take = .next t) : Inv t := by
  obtain ⟨hram, hrom, hdev⟩ := hs
  refine ⟨?_, ?_, ?_⟩
  · rw [commitCycle_ram h]
    exact storeIf_ram_wf wr hram
  · rw [commitCycle_rom h]
    exact hrom
  · rw [commitCycle_devices h]
    exact hdev

/-- Settles O44: a step that answers a next state is the clock edge of the word it fetched. -/
theorem stepKeepsMemoriesCanonical : Obligations.StepKeepsMemoriesCanonical := by
  intro s t hs h
  obtain ⟨w, -, hw⟩ := step_next h
  rw [exec_decode_eq_commitCycle] at hw
  exact commitCycle_keeps_inv hs hw

/-- Settles O45: the empty lists are canonical, and a loaded word changes `rom` alone. -/
theorem resetMemoriesCanonical : Obligations.ResetMemoriesCanonical := by
  refine ⟨⟨rfl, rfl, List.nodup_nil⟩, fun s nbits w hs => ?_⟩
  obtain ⟨hram, hrom, hdev⟩ := hs
  unfold State.withFetchWord
  split
  · exact ⟨hram, Memory.loaded_load _ _ hrom, hdev⟩
  · exact ⟨hram, hrom, hdev⟩

end Sys2Proof.Machine
end

section
/-! PROOFS. The ALU as a function of its operands: affine where it adds, bit by bit where it ANDs (spec/40_alu.md rules
R81 and R88). -/

namespace Sys2Proof.Machine

/-- Bitwise NOT as arithmetic modulo 2^16. -/
theorem not_eq_neg_sub_one (v : Word) : ~~~v = -v - 1 := BitVec.not_eq_neg_add v

/-- The factor of the operand in an input of the ALU. -/
def inputFactor (z n : Bool) : Word := if z then 0 else if n then -1 else 1

/-- The constant term of an input of the ALU. -/
def inputOffset (n : Bool) : Word := if n then -1 else 0

/-- Each input of the ALU is affine in its operand. -/
theorem aluInput_eq_affine (z n : Bool) (v : Word) : aluInput z n v = inputFactor z n * v + inputOffset n := by
  match z, n with
  | false, false => show v = 1 * v + 0; ring
  | false, true => show ~~~v = -1 * v + -1; rw [not_eq_neg_sub_one]; ring
  | true, false => show 0 = 0 * v + 0; ring
  | true, true => show ~~~0 = 0 * v + -1; rw [not_eq_neg_sub_one]; ring

/-- The three factors rule R88 allows. -/
abbrev IsFactor (p : Word) : Prop := p = 0xFFFF#16 ∨ p = 0x0000#16 ∨ p = 0x0001#16

theorem isFactor_inputFactor (z n : Bool) : IsFactor (inputFactor z n) := by
  cases z <;> cases n <;> decide

theorem isFactor_neg {p : Word} (h : IsFactor p) : IsFactor (-p) := by
  rcases h with rfl | rfl | rfl <;> decide

/-- With f = 1 the ALU is affine; inverting its output negates both factors. -/
theorem alu_affine_of_add {c : Control} (hf : c.f = true) :
    ∃ p q k : Word, IsFactor p ∧ IsFactor q ∧ ∀ x y, alu x y c = p * x + q * y + k := by
  have hx := isFactor_inputFactor c.zx c.nx
  have hy := isFactor_inputFactor c.zy c.ny
  cases hn : c.no with
  | false =>
    refine ⟨_, _, inputOffset c.nx + inputOffset c.ny, hx, hy, fun x y => ?_⟩
    simp only [alu, hf, hn, aluInput_eq_affine, if_true, Bool.false_eq_true, if_false]
    ring
  | true =>
    refine ⟨_, _, -(inputOffset c.nx + inputOffset c.ny) - 1, isFactor_neg hx, isFactor_neg hy, fun x y => ?_⟩
    simp only [alu, hf, hn, aluInput_eq_affine, if_true, not_eq_neg_sub_one]
    ring

/-- A bit of an input of the ALU depends on that bit of the operand alone. -/
theorem aluInput_bit_congr (z n : Bool) {i : Nat} {v v' : Word} (h : v.getLsbD i = v'.getLsbD i) :
    (aluInput z n v).getLsbD i = (aluInput z n v').getLsbD i := by
  cases z <;> cases n <;> simp [aluInput, h]

/-- With f = 0 a bit of the output depends on that bit of the operands alone. -/
theorem alu_bit_congr_of_and {c : Control} (hf : c.f = false) {i : Nat} {x y x' y' : Word}
    (hx : x.getLsbD i = x'.getLsbD i) (hy : y.getLsbD i = y'.getLsbD i) :
    (alu x y c).getLsbD i = (alu x' y' c).getLsbD i := by
  have hx' := aluInput_bit_congr c.zx c.nx hx
  have hy' := aluInput_bit_congr c.zy c.ny hy
  cases hn : c.no <;> simp [alu, hf, hn, hx', hy']

/-- Settles O8: addition keeps the inputs' affine form; AND and NOT act on each bit. -/
theorem aluIsLinearOrBitwise : Obligations.AluIsLinearOrBitwise :=
  fun _ => ⟨alu_affine_of_add, fun hf _ _ _ _ _ => alu_bit_congr_of_and hf⟩

end Sys2Proof.Machine
end

section
/-! PROOFS. The functions of the ALU's control patterns, from its algorithm (spec/40_alu.md rules R81 and R91 to R109). -/

namespace Sys2Proof.Machine

/-! Patterns whose output is a constant. -/

/-- No operand reaches the output: both inputs are zeroed, or one input of the AND is 0. -/
def ignoresOperands (c : Control) : Bool :=
  (c.zx && c.zy) || (!c.f && (c.zx && !c.nx)) || (!c.f && (c.zy && !c.ny))

/-- A zeroed input of the ALU does not depend on its operand. -/
theorem aluInput_zeroed (n : Bool) (v : Word) : aluInput true n v = aluInput true n 0 := rfl

theorem alu_of_ignoresOperands {c : Control} (h : ignoresOperands c = true) (x y : Word) : alu x y c = alu 0 0 c := by
  simp only [ignoresOperands, Bool.or_eq_true, Bool.and_eq_true, Bool.not_eq_true'] at h
  rcases h with (⟨hx, hy⟩ | ⟨hf, hz, hn⟩) | ⟨hf, hz, hn⟩
  · simp only [alu, hx, hy, aluInput_zeroed _ x, aluInput_zeroed _ y]
  · have hzero (v : Word) : aluInput c.zx c.nx v = 0 := by rw [hz, hn]; rfl
    simp [alu, hf, hzero]
  · have hzero (v : Word) : aluInput c.zy c.ny v = 0 := by rw [hz, hn]; rfl
    simp [alu, hf, hzero]

/-! Patterns that compute a function of x alone. -/

/-- The y input is neutral, all ones under AND and 0 under addition: the output is x, inverted by nx and by no. -/
theorem alu_y_neutral (nx f no : Bool) (x y : Word) :
    alu x y ⟨false, nx, true, !f, f, no⟩ = if nx ^^ no then ~~~x else x := by
  have hneutral (u : Word) : (if f then u + aluInput true (!f) y else u &&& aluInput true (!f) y) = u := by
    cases f with
    | false => show u &&& ~~~0#16 = u; rw [BitVec.not_zero, BitVec.and_allOnes]
    | true => exact BitVec.add_zero u
  simp only [alu, hneutral]
  cases nx <;> cases no <;> simp [aluInput]

theorem alu_x_sub_one (x y : Word) : alu x y (controlOf 0b001110#6) = x - 1 := by
  show x + ~~~0 = x - 1
  rw [not_eq_neg_sub_one]
  ring

theorem alu_neg_x (x y : Word) : alu x y (controlOf 0b001111#6) = -x := by
  show ~~~(x + ~~~0) = -x
  simp only [not_eq_neg_sub_one]
  ring

theorem alu_neg_x_sub_two (x y : Word) : alu x y (controlOf 0b011110#6) = -x - 2 := by
  show ~~~x + ~~~0 = -x - 2
  simp only [not_eq_neg_sub_one]
  ring

theorem alu_x_add_one (x y : Word) : alu x y (controlOf 0b011111#6) = x + 1 := by
  show ~~~(~~~x + ~~~0) = x + 1
  simp only [not_eq_neg_sub_one]
  ring

/-! Patterns that compute a function of both operands. -/

theorem alu_x_sub_y (x y : Word) : alu x y (controlOf 0b010011#6) = x - y := by
  show ~~~(~~~x + y) = x - y
  simp only [not_eq_neg_sub_one]
  ring

theorem alu_x_sub_y_sub_one (x y : Word) : alu x y (controlOf 0b000110#6) = x - y - 1 := by
  show x + ~~~y = x - y - 1
  rw [not_eq_neg_sub_one]
  ring

theorem alu_neg_x_sub_y_sub_one (x y : Word) : alu x y (controlOf 0b000011#6) = -x - y - 1 := by
  show ~~~(x + y) = -x - y - 1
  rw [not_eq_neg_sub_one]
  ring

theorem alu_neg_x_sub_y_sub_two (x y : Word) : alu x y (controlOf 0b010110#6) = -x - y - 2 := by
  show ~~~x + ~~~y = -x - y - 2
  simp only [not_eq_neg_sub_one]
  ring

theorem alu_x_add_y_add_one (x y : Word) : alu x y (controlOf 0b010111#6) = x + y + 1 := by
  show ~~~(~~~x + ~~~y) = x + y + 1
  simp only [not_eq_neg_sub_one]
  ring

theorem alu_or (x y : Word) : alu x y (controlOf 0b010101#6) = x ||| y := by
  show ~~~(~~~x &&& ~~~y) = x ||| y
  rw [BitVec.not_and, BitVec.not_not, BitVec.not_not]

theorem alu_nor (x y : Word) : alu x y (controlOf 0b010100#6) = ~~~(x ||| y) := BitVec.not_or.symm

theorem alu_not_x_or_y (x y : Word) : alu x y (controlOf 0b000101#6) = ~~~x ||| y := by
  show ~~~(x &&& ~~~y) = ~~~x ||| y
  rw [BitVec.not_and, BitVec.not_not]

theorem alu_x_or_not_y (x y : Word) : alu x y (controlOf 0b010001#6) = x ||| ~~~y := by
  show ~~~(~~~x &&& y) = x ||| ~~~y
  rw [BitVec.not_and, BitVec.not_not]

/-! The operands exchanged. -/

/-- The control bits with the bits of the two operands exchanged. -/
def swapOperands (c : Control) : Control := ⟨c.zy, c.ny, c.zx, c.nx, c.f, c.no⟩

/-- Addition and AND are commutative, so exchanged operand bits exchange the operands. -/
theorem alu_swapOperands (x y : Word) (c : Control) : alu x y (swapOperands c) = alu y x c := by
  simp only [alu, swapOperands, BitVec.add_comm (aluInput c.zy c.ny x), BitVec.and_comm (aluInput c.zy c.ny x)]

end Sys2Proof.Machine
end

section
/-! PROOFS. The cycle of a C-instruction whose ALU function is known, where PC does not overflow (rule R180 of
spec/45_compute_instruction.md), and the rows of the table of ALU functions (spec/40_alu.md rules R91 to R109). -/

namespace Sys2Proof.Machine

open Safety

/-- The data memory after a cycle whose write depends on the dest bit. -/
theorem storeIf_whenSet_ram (s : State) (b : Bool) (v : Word) :
    (storeIf s (whenSet b v)).ram =
      if b && !s.isDevice (addressM s) then s.ram.write (addressM s) v else s.ram := by
  cases b with
  | false => rfl
  | true => cases h : s.isDevice (addressM s) <;> simp [storeIf, whenSet, h]

/-- The ports of a cycle whose write depends on the dest bit. -/
theorem outputsOf_whenSet (s : State) (b : Bool) (v : Word) :
    outputsOf s (whenSet b v) =
      { outM := if b then v else Config.outMDraw s.cycle, writeM := b, addressM := addressM s, pc := s.regs.pc } := by
  rw [outputsOf, whenSet_getD, whenSet_isSome]

/-- Where PC does not overflow, the shared C-instruction answers the next state of rule R180. -/
theorem compute_eq_afterCompute {a : Bool} {c : BitVec 6} {d : Dest} {j : Jump} {s : State} {out : Word}
    (hout : alu (xOperand s) (yOperand a s) (controlOf c) = out) (h : NoPcOverflow s (jumpHolds j out)) :
    compute a c d j s = .next (afterCompute s out d j) := by
  simp only [compute, hout, jumpCond_flags]
  rw [commitCycle_next s _ _ _ h, cellNext_whenSet, cellNext_whenSet, storeIf_whenSet_ram, outputsOf_whenSet]
  rfl

/-- An instruction whose word has comp bits a and c runs the shared C-instruction at them. -/
theorem exec_eq_compute_of_encode {i : Instr} {a : Bool} {c : BitVec 6} {d : Dest} {j : Jump}
    (h : encode i = computeWord a c d j) (s : State) : exec i s = compute a c d j s := by
  rw [← decode_encode i, h, exec_decode_compute _ s (bit15_computeWord a c d j)]
  simp only [bit12_computeWord, controlField_computeWord, destField_computeWord, jumpField_computeWord, compute,
    controlOf_code]

/-- A row of the table: the word of the instructions, and the function of their control bits. -/
theorem computesAs_of_alu {i : Dest → Jump → Instr} {a : Bool} {c : BitVec 6} {f : Word → Word → Word}
    (halu : ∀ x y, alu x y (controlOf c) = f x y)
    (henc : ∀ d j, encode (i d j) = computeWord a c d j := by intros; rfl) : ComputesAs i a c f :=
  fun d j =>
    ⟨henc d j, fun s h => (exec_eq_compute_of_encode (henc d j) s).trans (compute_eq_afterCompute (halu _ _) h)⟩

/-- A row of the table with the function of the row in which the bits of the two operands are exchanged. -/
theorem computesAs_exchanged {i : Dest → Jump → Instr} {a : Bool} {c : BitVec 6} {c' : Control}
    {f : Word → Word → Word} (halu : ∀ x y, alu x y c' = f x y) (hc : controlOf c = swapOperands c' := by rfl)
    (henc : ∀ d j, encode (i d j) = computeWord a c d j := by intros; rfl) : ComputesAs i a c fun x y => f y x :=
  computesAs_of_alu (fun x y => by rw [hc, alu_swapOperands, halu]) henc

/-- A row of the table whose function is constant: its value at zero operands. -/
theorem computesAs_constant {i : Dest → Jump → Instr} {a : Bool} {c : BitVec 6} {k : Word}
    (hc : ignoresOperands (controlOf c) = true) (hk : alu 0 0 (controlOf c) = k)
    (henc : ∀ d j, encode (i d j) = computeWord a c d j := by intros; rfl) : ComputesAs i a c fun _ _ => k :=
  computesAs_of_alu (fun x y => (alu_of_ignoresOperands hc x y).trans hk) henc

/-- Settles O9: no operand reaches the output of these patterns. -/
theorem constantsZeroOneMinusOne : Obligations.ConstantsZeroOneMinusOne := by
  unfold Obligations.ConstantsZeroOneMinusOne
  and_intros <;> exact computesAs_constant rfl rfl

/-- Settles O20: no operand reaches the output of these patterns. -/
theorem nonCanonicalConstants : Obligations.NonCanonicalConstants := by
  unfold Obligations.NonCanonicalConstants
  and_intros <;> exact computesAs_constant rfl rfl

/-- Settles O10: the other input is neutral and nothing is inverted. -/
theorem passDPassAPassM : Obligations.PassDPassAPassM :=
  have hpass := alu_y_neutral false false false
  ⟨computesAs_of_alu hpass, computesAs_of_alu hpass,
    computesAs_exchanged hpass, computesAs_exchanged hpass⟩

/-- Settles O11: the other input is neutral and the output is inverted. -/
theorem notDNotANotM : Obligations.NotDNotANotM :=
  have hnot := alu_y_neutral false false true
  ⟨computesAs_of_alu hnot, computesAs_of_alu hnot,
    computesAs_exchanged hnot, computesAs_exchanged hnot⟩

/-- Settles O12: the other input is -1 and the sum is inverted, `~(v - 1) = -v`. -/
theorem negateDNegateANegateM : Obligations.NegateDNegateANegateM :=
  ⟨computesAs_of_alu alu_neg_x, computesAs_of_alu alu_neg_x,
    computesAs_exchanged alu_neg_x, computesAs_exchanged alu_neg_x⟩

/-- Settles O13: the operand is inverted, the other input is -1 and the sum is inverted, `~(~v - 1) = v + 1`. -/
theorem incrementDIncrementAIncrementM : Obligations.IncrementDIncrementAIncrementM :=
  ⟨computesAs_of_alu alu_x_add_one, computesAs_of_alu alu_x_add_one,
    computesAs_exchanged alu_x_add_one, computesAs_exchanged alu_x_add_one⟩

/-- Settles O14: the other input is -1. -/
theorem decrementDDecrementADecrementM : Obligations.DecrementDDecrementADecrementM :=
  ⟨computesAs_of_alu alu_x_sub_one, computesAs_of_alu alu_x_sub_one,
    computesAs_exchanged alu_x_sub_one, computesAs_exchanged alu_x_sub_one⟩

/-- Settles O15: both inputs are the operands, and the ALU adds them. -/
theorem addDToAOrM : Obligations.AddDToAOrM :=
  ⟨computesAs_of_alu fun _ _ => rfl, computesAs_of_alu fun _ _ => rfl⟩

/-- Settles O16: `~(~D + y) = D - y`. -/
theorem subtractAOrMFromD : Obligations.SubtractAOrMFromD :=
  ⟨computesAs_of_alu alu_x_sub_y, computesAs_of_alu alu_x_sub_y⟩

/-- Settles O17: `D - y` with the operands exchanged. -/
theorem subtractDFromAOrM : Obligations.SubtractDFromAOrM :=
  ⟨computesAs_exchanged alu_x_sub_y, computesAs_exchanged alu_x_sub_y⟩

/-- Settles O18: both inputs are the operands, and the ALU ANDs them. -/
theorem andDWithAOrM : Obligations.AndDWithAOrM :=
  ⟨computesAs_of_alu fun _ _ => rfl, computesAs_of_alu fun _ _ => rfl⟩

/-- Settles O19: `~(~D & ~y)`, De Morgan's OR. -/
theorem orDWithAOrM : Obligations.OrDWithAOrM :=
  ⟨computesAs_of_alu alu_or, computesAs_of_alu alu_or⟩

/-- Settles O21: the y input is neutral, and D is inverted as often as nx and no say; or it is -1, `~D - 1`. -/
theorem nonCanonicalFunctionsOfD : Obligations.NonCanonicalFunctionsOfD :=
  ⟨computesAs_of_alu (alu_y_neutral false true false), computesAs_of_alu (alu_y_neutral false true false),
    computesAs_of_alu (alu_y_neutral false true true), computesAs_of_alu (alu_y_neutral false true true),
    computesAs_of_alu (alu_y_neutral true true false), computesAs_of_alu (alu_y_neutral true true false),
    computesAs_of_alu (alu_y_neutral true true true), computesAs_of_alu (alu_y_neutral true true true),
    computesAs_of_alu (alu_y_neutral true false false), computesAs_of_alu (alu_y_neutral true false false),
    computesAs_of_alu (alu_y_neutral true false true), computesAs_of_alu (alu_y_neutral true false true),
    computesAs_of_alu alu_neg_x_sub_two, computesAs_of_alu alu_neg_x_sub_two⟩

/-- Settles O22: the patterns of O21 with the operands exchanged. -/
theorem nonCanonicalFunctionsOfY : Obligations.NonCanonicalFunctionsOfY :=
  ⟨computesAs_exchanged (alu_y_neutral false true false), computesAs_exchanged (alu_y_neutral false true false),
    computesAs_exchanged (alu_y_neutral false true true), computesAs_exchanged (alu_y_neutral false true true),
    computesAs_exchanged (alu_y_neutral true true false), computesAs_exchanged (alu_y_neutral true true false),
    computesAs_exchanged (alu_y_neutral true true true), computesAs_exchanged (alu_y_neutral true true true),
    computesAs_exchanged (alu_y_neutral true false false), computesAs_exchanged (alu_y_neutral true false false),
    computesAs_exchanged (alu_y_neutral true false true), computesAs_exchanged (alu_y_neutral true false true),
    computesAs_exchanged alu_neg_x_sub_two, computesAs_exchanged alu_neg_x_sub_two⟩

/-- Settles O23: sums and differences from `~v = -v - 1`, and the bitwise functions by De Morgan's laws. -/
theorem nonCanonicalFunctionsOfBoth : Obligations.NonCanonicalFunctionsOfBoth :=
  ⟨computesAs_of_alu fun _ _ => rfl, computesAs_of_alu fun _ _ => rfl,
    computesAs_of_alu alu_neg_x_sub_y_sub_one, computesAs_of_alu alu_neg_x_sub_y_sub_one,
    computesAs_of_alu fun _ _ => rfl, computesAs_of_alu fun _ _ => rfl,
    computesAs_of_alu alu_not_x_or_y, computesAs_of_alu alu_not_x_or_y,
    computesAs_of_alu alu_x_sub_y_sub_one, computesAs_of_alu alu_x_sub_y_sub_one,
    computesAs_of_alu fun _ _ => rfl, computesAs_of_alu fun _ _ => rfl,
    computesAs_of_alu alu_x_or_not_y, computesAs_of_alu alu_x_or_not_y,
    computesAs_exchanged alu_x_sub_y_sub_one, computesAs_exchanged alu_x_sub_y_sub_one,
    computesAs_of_alu alu_nor, computesAs_of_alu alu_nor,
    computesAs_of_alu alu_neg_x_sub_y_sub_two, computesAs_of_alu alu_neg_x_sub_y_sub_two,
    computesAs_of_alu alu_x_add_y_add_one, computesAs_of_alu alu_x_add_y_add_one⟩

/-- Settles O26: the row of `D-A` at 0x7FFF and 0xFFFF, whose difference 0x8000 is negative, so that JLT jumps. -/
theorem signedOverflowReversesComparison : Obligations.SignedOverflowReversesComparison := by
  intro d s hD hA hr
  have hout : s.regs.d - s.regs.a = 0x8000#16 := by rw [hD, hA]; rfl
  have hexec := (subtractAOrMFromD.1 d .jlt).2 s
  simp only [Bool.false_eq_true, if_false, hout] at hexec
  refine ⟨by rw [hD, hA]; decide, hexec (.inr (.inl rfl)), ?_⟩
  simp only [afterCompute, hr, hA]
  rfl

end Sys2Proof.Machine
end

section
/-! PROOFS. The jump codes as signed tests (spec/41_jump.md rules R120 to R128), and the numbers that fit a port
(spec/46_cpu_step.md rule R206). -/

namespace Sys2Proof.Machine

open Safety

/-- Settles O24: on the flags of a result the unit answers the signed test of its code. -/
theorem jumpConditionsTestTheSignedResult : Obligations.JumpConditionsTestTheSignedResult := by
  refine ⟨fun out => ?_, rfl⟩
  simp only [jumpCond_flags, jumpHolds, decide_eq_true_iff, and_self]

/-- A number becomes a word exactly if it fits one. -/
theorem wordOfNat?_toNat (n : Nat) : (wordOfNat? n).map BitVec.toNat = if n < 65536 then some n else none := by
  have hfits : fitsWord n = true ↔ n < 65536 := decide_eq_true_iff
  simp only [wordOfNat?, hfits]
  split
  next h => simp [Nat.mod_eq_of_lt h]
  next => rfl

/-- A number that fits the reset port is the value of its bit. -/
theorem toNat_decide_eq_one {n : Nat} (h : n < 2) : (decide (n = 1)).toNat = n := by
  interval_cases n <;> rfl

theorem rawInputs_fits_iff (r : RawInputs) :
    r.fits = true ↔ r.instruction < 65536 ∧ r.inM < 65536 ∧ r.reset < 2 := by
  simp only [RawInputs.fits, fitsWord, fitsBit, Bool.and_eq_true, decide_eq_true_iff, and_assoc]
  rfl

/-- Settles O6: `BitVec.ofNat` of a number that fits keeps the number. -/
theorem outOfRangeNumbersAreRefused : Obligations.OutOfRangeNumbersAreRefused := by
  refine ⟨wordOfNat?_toNat, fun r => ?_⟩
  simp only [inputsOfRaw?, rawInputs_fits_iff]
  split
  next h =>
    obtain ⟨hi, hm, hr⟩ := h
    simp [Nat.mod_eq_of_lt hi, Nat.mod_eq_of_lt hm, toNat_decide_eq_one hr]
  next => rfl

end Sys2Proof.Machine
end

section
/-! PROOFS. What the cycle of a word loads, writes and shows on its ports (spec/42_register_file.md rules R141 to R143 and
R150 to R157), at device addresses too (spec/92_eei_decisions.md decision D7). -/

namespace Sys2Proof.Machine

open Safety

/-- The data memory and the ports of the cycle of a word: the result is written for a C-instruction with bit 3. -/
theorem exec_decode_write {w : Word} {s t : State} (h : exec (decode w) s = .next t) :
    if bit w 15 && bit w 3 then Wrote s t (resultOf w s) else WroteNothing s t := by
  rw [exec_decode_eq_commitCycle] at h
  have hram := commitCycle_ram h
  have hports := commitCycle_outputs h
  rw [storeIf_whenSet_ram] at hram
  rw [outputsOf_whenSet] at hports
  cases hw : bit w 15 && bit w 3 with
  | false =>
    rw [hw] at hram hports
    exact ⟨hram, by rw [hports]; rfl⟩
  | true =>
    rw [hw] at hram hports
    refine ⟨?_, hports⟩
    rw [hram]
    cases hd : s.isDevice (s.regs.a.setWidth 15) <;> simp [addressM, trunc15, hd]

/-- Settles O27: the loads and the write that bits 15 and 5..3 ask the clock edge for. -/
theorem registerLoadsAndWriteRequest : Obligations.RegisterLoadsAndWriteRequest := by
  intro w s t h
  have hregs := exec_decode_regs h
  exact ⟨by rw [hregs], by rw [hregs], exec_decode_write h⟩

/-- The three destinations of a C-instruction, each by its own bit of the dest code. -/
theorem exec_decode_dest {w : Word} {s t : State} (hc : bit w 15 = true) (h : exec (decode w) s = .next t) :
    (t.regs.a = if (w.extractLsb' 3 3).getLsbD 2 then resultOf w s else s.regs.a) ∧
    (t.regs.d = if (w.extractLsb' 3 3).getLsbD 1 then resultOf w s else s.regs.d) ∧
    if (w.extractLsb' 3 3).getLsbD 0 then Wrote s t (resultOf w s) else WroteNothing s t := by
  obtain ⟨ha, hd, hm⟩ := registerLoadsAndWriteRequest w s t h
  rw [hc] at ha hd hm
  simp only [BitVec.getLsbD_extractLsb']
  exact ⟨ha, hd, hm⟩

/-- Settles O28: a dest code fixes each of its three bits. -/
theorem destCodes : Obligations.DestCodes := by
  intro w s t hc h
  have hdest := exec_decode_dest hc h
  and_intros <;> (intro hcode; rw [hcode] at hdest; exact hdest)

/-- Settles O37: the write and the jump of a cycle use the pre-commit A, whatever the cycle loads into A. -/
theorem loadedAIsNotUsedInItsOwnCycle : Obligations.LoadedAIsNotUsedInItsOwnCycle := by
  intro w s t hc hA h
  obtain ⟨ha, -, hm⟩ := registerLoadsAndWriteRequest w s t h
  rw [hc, hA] at ha
  refine ⟨ha, fun hM => ?_, fun hr ht => ?_⟩
  · rw [hc, hM] at hm
    exact hm
  · rw [nextPcPriority.1 w s t h, hr, ht]
    rfl

/-- Settles O53: the operand is the free value of the device, and the clock edge stores nothing at a device address. -/
theorem deviceAddressesBelongToThePlatform : Obligations.DeviceAddressesBelongToThePlatform := by
  refine ⟨fun w s t hdev h => ?_, State.dataWord_storage⟩
  have hwrite := exec_decode_write h
  refine ⟨fun ha => ?_, ?_, ?_, fun hc hM => ?_⟩
  · rw [resultOf_of_readsM s ha, State.dataWord_device s _ hdev]
  · cases hw : bit w 15 && bit w 3 with
    | false =>
      rw [hw] at hwrite
      exact hwrite.1
    | true =>
      rw [hw] at hwrite
      exact hwrite.1.trans (if_pos hdev)
  · rw [exec_decode_eq_commitCycle] at h
    exact commitCycle_devices h
  · rw [hc, hM] at hwrite
    obtain ⟨-, hports⟩ : Wrote s t (resultOf w s) := hwrite
    rw [hports]
    rfl

end Sys2Proof.Machine
end

section
/-! PROOFS. `exec` against CpuStep on the raw word (spec/46_cpu_step.md rule R201). -/

namespace Sys2Proof.Machine

open Safety

/-- The jump of CpuStep in the harness cycle is the jump the word takes. -/
theorem cpuTakeJump_harnessInputs (w : Word) (s : State) :
    cpuTakeJump s.regs (harnessInputs w s) = takesJump w s := by
  rw [cpuTakeJump, jumpCond_flags]
  rfl

/-- The registers CpuStep commits in the harness cycle are those the clock edge of the word commits. -/
theorem cpuNext_harnessInputs (policy : PcOverflow) (w : Word) (s : State) :
    cpuNext policy s.regs (harnessInputs w s) =
      (nextPc policy s.resetNow (takesJump w s) (jumpTarget s) s.regs.pc).map fun pc' =>
        { a := cellNext (if bit w 15 then whenSet (bit w 5) (resultOf w s) else some w) s.regs.a
          d := cellNext (whenSet (bit w 15 && bit w 4) (resultOf w s)) s.regs.d
          pc := pc' } := by
  have ha : cellNext (if bit w 15 then whenSet (bit w 5) (resultOf w s) else some w) s.regs.a =
      if !bit w 15 || bit w 5 then (if bit w 15 then resultOf w s else w) else s.regs.a := by
    cases bit w 15 <;> cases bit w 5 <;> rfl
  have hpc : nextPc policy (harnessInputs w s).reset (cpuTakeJump s.regs (harnessInputs w s)) (trunc15 s.regs.a)
      s.regs.pc = nextPc policy s.resetNow (takesJump w s) (jumpTarget s) s.regs.pc := by
    rw [cpuTakeJump_harnessInputs]; rfl
  rw [cpuNext, hpc, ha, cellNext_whenSet]
  cases nextPc policy s.resetNow (takesJump w s) (jumpTarget s) s.regs.pc <;> rfl

/-- The harness stores what the ports say, which is the write they were made from. -/
theorem store_outputsOf (s : State) (write : Option Word) :
    (if (outputsOf s write).writeM then s.store (outputsOf s write).addressM (outputsOf s write).outM else s) =
      storeIf s write := by
  cases write <;> rfl

/-- Settles O38: CpuStep commits the registers and shows the ports of the write that the word asks the clock edge for. -/
theorem execOfDecodedWordIsCpuStep : Obligations.ExecOfDecodedWordIsCpuStep := by
  intro w s
  have hwr : whenSet (signals w).loadM (cpuResult s.regs (harnessInputs w s)) =
      whenSet (bit w 15 && bit w 3) (resultOf w s) := rfl
  rw [exec_decode_eq_commitCycle, commitCycle, harnessCycle, cpuStep, cpuNext_harnessInputs, cpuOutputs_harnessInputs,
    hwr]
  cases nextPc Config.pcOverflow s.resetNow (takesJump w s) (jumpTarget s) s.regs.pc with
  | none => rfl
  | some pc' => simp only [Option.map_some, store_outputsOf]

end Sys2Proof.Machine
end

section
/-! PROOFS. Completion and frame of every instruction (spec/60_exceptions.md rule R222, spec/42_register_file.md), and the
exact next state of the A-instruction (spec/44_address_instruction.md rule R170). -/

namespace Sys2Proof.Machine

open Safety

/-- Settles O40: the one other outcome needs reset = 0 and PC = 0x7FFF. -/
theorem everyInstructionCompletes : Obligations.EveryInstructionCompletes := by
  intro i s
  have hcases := exec_decode_cases (encode i) s
  rw [decode_encode] at hcases
  rcases hcases with hnext | ⟨hf, hc, hp, hr, -⟩
  · exact ⟨fun _ => hnext, .inl hnext⟩
  · refine ⟨fun h => ?_, .inr ⟨hf, hp, hr, hc⟩⟩
    rcases h with hr' | hp'
    · rw [hr] at hr'; cases hr'
    · exact absurd hp hp'

/-- A committed cycle consumes one reset input and is counted. -/
theorem commitCycle_bookkeeping {s t : State} {la ld wr : Option Word} {take : Bool}
    (h : commitCycle s la ld wr take = .next t) : t.resetInputs = s.resetInputs.tail ∧ t.cycle = s.cycle + 1 := by
  rcases commitCycle_cases s la ld wr take with ⟨hf, -⟩ | hn
  · rw [hf] at h; cases h
  · rw [hn] at h; cases h
    exact ⟨rfl, rfl⟩

/-- Settles O42: a destination that the word does not name keeps its value, and a write changes one address. -/
theorem frameOfEveryInstruction : Obligations.FrameOfEveryInstruction := by
  intro i s t h
  rw [← decode_encode i] at h
  have hregs := exec_decode_regs h
  rw [exec_decode_eq_commitCycle] at h
  have hram := commitCycle_ram h
  rw [storeIf_whenSet_ram] at hram
  refine ⟨fun hc hA => ?_, fun hD => ?_, fun hM p => ?_, fun hc hM p hp => ?_, commitCycle_rom h, commitCycle_devices h,
    commitCycle_bookkeeping h⟩
  · rw [hregs, hc, hA]; rfl
  · have hload : (bit (encode i) 15 && bit (encode i) 4) = false := by rwa [Bool.and_eq_false_iff]
    rw [hregs, hload]; rfl
  · have hwrite : (bit (encode i) 15 && bit (encode i) 3) = false := by rwa [Bool.and_eq_false_iff]
    rw [hram, hwrite]; rfl
  · rw [hram]
    split
    · exact Memory.read_write_other _ _ _ _ hp.symm
    · rfl

/-- Everything `@v` can answer: the fault of an increment from 0x7FFF under `fault`, or the next state of rule R170. -/
theorem exec_atValue_cases (v : Addr) (s : State) :
    (exec (.atValue v) s = .fault .pcOverflow ∧ s.resetNow = false ∧ s.regs.pc = 0x7FFF#15 ∧
      Config.pcOverflow = .fault) ∨ exec (.atValue v) s = .next (afterAddress s v) := by
  rcases commitCycle_cases s (some (zext16 v)) none none false with ⟨hf, hr, -, hp, hc⟩ | hn
  · exact .inl ⟨hf, hr, hp, hc⟩
  · refine .inr (hn.trans ?_)
    rw [cellNext_some, zext16, ← literal_eq_zext]
    rfl

/-- Settles O32: only on an increment from 0x7FFF under `fault` does `@v` not answer the next state of rule R170. -/
theorem addressInstructionLoadsLiteral : Obligations.AddressInstructionLoadsLiteral := by
  refine fun v => ⟨rfl, fun s => ⟨fun h => ?_, fun ⟨hr, hp⟩ => ?_⟩⟩
  · rcases exec_atValue_cases v s with ⟨-, hr, hp, -⟩ | hn
    · simp [NoPcOverflow, hr, hp] at h
    · exact hn
  · cases hc : Config.pcOverflow with
    | fault => exact commitCycle_overflow_of_fault _ _ _ hc hr hp
    | wrap =>
      rcases exec_atValue_cases v s with ⟨-, -, -, hf⟩ | hn
      · rw [hc] at hf; cases hf
      · refine ⟨hn, ?_⟩
        simp only [afterAddress, hr, hp]
        rfl

end Sys2Proof.Machine
end

section
/-! PROOFS. The operand a word does not use: data memory where a = 0, bit 15 of A where a = 1 or in `@v` (spec/10_state.md
section 7, spec/45_compute_instruction.md). -/

namespace Sys2Proof.Machine

open Safety

/-- What a word asks of the clock edge depends on the state through the result alone, and in `@v` not even on that. -/
theorem exec_decode_of_same_result {w : Word} {s s' : State} (h : bit w 15 = true → resultOf w s' = resultOf w s) :
    exec (decode w) s' =
      commitCycle s' (if bit w 15 then whenSet (bit w 5) (resultOf w s) else some w)
        (whenSet (bit w 15 && bit w 4) (resultOf w s)) (whenSet (bit w 15 && bit w 3) (resultOf w s))
        (takesJump w s) := by
  rw [exec_decode_eq_commitCycle]
  cases hc : bit w 15 with
  | false => simp [takesJump, hc, whenSet]
  | true => simp only [takesJump, hc, h hc]

/-- The load of A that a word asks for is there exactly if `loadA` is 1 (rule R141). -/
theorem loadA_request {w : Word} (out : Word) (h : (signals w).loadA = true) :
    ∃ v, (if bit w 15 then whenSet (bit w 5) out else some w) = some v := by
  have hload : (!bit w 15 || bit w 5) = true := h
  cases hc : bit w 15 with
  | false => exact ⟨w, rfl⟩
  | true =>
    rw [hc] at hload
    exact ⟨out, if_pos hload⟩

/-- The state with bit 15 of A inverted. -/
def invertA15 (s : State) : State := { s with regs := { s.regs with a := s.regs.a ^^^ 0x8000#16 } }

/-- Bit 15 of A is no part of the data address and of the jump target. -/
theorem addressM_invertA15 (s : State) : addressM (invertA15 s) = addressM s := by
  show (s.regs.a ^^^ 0x8000#16).setWidth 15 = s.regs.a.setWidth 15
  rw [BitVec.setWidth_xor]
  exact BitVec.xor_zero

/-- With a = 1 the result does not read bit 15 of A. -/
theorem resultOf_invertA15 {w : Word} (s : State) (h : bit w 12 = true) : resultOf w (invertA15 s) = resultOf w s := by
  rw [resultOf_of_readsM _ h, resultOf_of_readsM _ h]
  exact congrArg (fun p => alu s.regs.d (s.dataWord p) (controlField w)) (addressM_invertA15 s)

/-- The same request at the clock edge of the two states leaves the same registers but A, the same memories and ports, and
the same A where A is loaded. -/
theorem commitCycle_invertA15 {s t t' : State} {la ld wr : Option Word} {take : Bool}
    (h : commitCycle s la ld wr take = .next t) (h' : commitCycle (invertA15 s) la ld wr take = .next t') :
    t.regs.d = t'.regs.d ∧ t.regs.pc = t'.regs.pc ∧ t.ram = t'.ram ∧ t.rom = t'.rom ∧ t.outputs = t'.outputs ∧
      ∀ v, la = some v → t.regs.a = t'.regs.a := by
  have haddr := addressM_invertA15 s
  have htarget : jumpTarget (invertA15 s) = jumpTarget s := haddr
  have hregs := commitCycle_regs h
  have hregs' := commitCycle_regs h'
  rw [htarget] at hregs'
  refine ⟨by rw [hregs, hregs']; rfl, by rw [hregs, hregs']; rfl, ?_, ?_, ?_, fun v hla => ?_⟩
  · rw [commitCycle_ram h, commitCycle_ram h', storeIf_ram, storeIf_ram, haddr]
    rfl
  · rw [commitCycle_rom h, commitCycle_rom h']
    rfl
  · rw [commitCycle_outputs h, commitCycle_outputs h', outputsOf, outputsOf, haddr]
    rfl
  · rw [hregs, hregs', hla]
    rfl

/-- Settles O35: the unused operand does not enter the result, so both cycles ask the same of the clock edge. -/
theorem unusedOperandHasNoEffect : Obligations.UnusedOperandHasNoEffect := by
  refine fun w s t t' => ⟨fun ⟨_, ha⟩ ram' h h' => ?_, fun huse h h' => ?_⟩
  · have hres (r : State) : resultOf w r = alu r.regs.d r.regs.a (controlField w) := by rw [resultOf, ha]; rfl
    rw [exec_decode_eq_commitCycle] at h
    rw [exec_decode_of_same_result (s := s) (s' := { s with ram := ram' }) fun _ => (hres _).trans (hres s).symm] at h'
    rw [commitCycle_regs h, commitCycle_regs h', commitCycle_outputs h, commitCycle_outputs h']
    exact ⟨rfl, rfl⟩
  · have hres (hc : bit w 15 = true) : resultOf w (invertA15 s) = resultOf w s :=
      resultOf_invertA15 s (huse.resolve_left (by rw [hc]; decide))
    rw [exec_decode_eq_commitCycle] at h
    replace h' := (exec_decode_of_same_result hres).symm.trans h'
    obtain ⟨hd, hpc, hram, hrom, hports, hloaded⟩ := commitCycle_invertA15 h h'
    refine ⟨hd, hpc, hram, hrom, by rw [hports], fun hload => ?_⟩
    obtain ⟨v, hv⟩ := loadA_request (resultOf w s) hload
    exact hloaded v hv

end Sys2Proof.Machine
end

section
/-! PROOFS. Runs of n cycles, and the harness run to `haltPc` (spec/20_memory.md rule R49, spec/70_reset_and_hazards.md rule
R260, spec/92_eei_decisions.md decision D11). -/

namespace Sys2Proof.Machine

open Safety

/-- Settles O50: the fetch presents the word at PC. -/
theorem stepRunsTheDecodedInstruction : Obligations.StepRunsTheDecodedInstruction := fun _ _ => step_of_fetch_some

/-- A step that answers a next state is the clock edge of a request, whose ports it records. -/
theorem step_eq_commitCycle {s t : State} (h : step s = .next t) :
    ∃ la ld wr take, commitCycle s la ld wr take = .next t ∧ t.outputs = some (outputsOf s wr) := by
  obtain ⟨w, -, hw⟩ := step_next h
  rw [exec_decode_eq_commitCycle] at hw
  exact ⟨_, _, _, _, hw, commitCycle_outputs hw⟩

/-- A completed first cycle shows its ports before those of the cycles after it. -/
theorem cyclesFrom_succ_of_next {s t : State} {o : Outputs} (n : Nat) (h : step s = .next t) (ho : t.outputs = some o) :
    cyclesFrom (n + 1) s = (cyclesFrom n t).map fun r => (o :: r.1, r.2) := by
  rw [cyclesFrom, h]
  simp only [ho]
  cases cyclesFrom n t <;> rfl

/-- n cycles show n ports, count n and consume n reset inputs. -/
theorem cyclesFrom_bookkeeping {n : Nat} {s t : State} {os : List Outputs} (h : cyclesFrom n s = some (os, t)) :
    os.length = n ∧ t.cycle = s.cycle + n ∧ t.resetInputs = s.resetInputs.drop n := by
  induction n generalizing s os with
  | zero =>
    cases h
    exact ⟨rfl, rfl, rfl⟩
  | succ n ih =>
    obtain ⟨s', o, os', hs, -, hn, rfl⟩ := cyclesFrom_succ h
    obtain ⟨hlen, hcycle, hresets⟩ := ih hn
    obtain ⟨_, _, _, _, hedge, -⟩ := step_eq_commitCycle hs
    obtain ⟨hresets', hcycle'⟩ := commitCycle_bookkeeping hedge
    refine ⟨by rw [List.length_cons, hlen], by omega, ?_⟩
    rw [hresets, hresets', List.drop_tail]

/-- n + m cycles are n cycles followed by m. -/
theorem cyclesFrom_add {n : Nat} {s t : State} {os : List Outputs} (h : cyclesFrom n s = some (os, t)) (m : Nat) :
    cyclesFrom (n + m) s = (cyclesFrom m t).map fun r => (os ++ r.1, r.2) := by
  induction n generalizing s os with
  | zero =>
    cases h
    rw [Nat.zero_add]
    exact Option.map_id'.symm
  | succ n ih =>
    obtain ⟨s', o, os', hs, ho, hn, rfl⟩ := cyclesFrom_succ h
    rw [Nat.add_right_comm, cyclesFrom_succ_of_next _ hs ho, ih hn, Option.map_map]
    rfl

/-- Settles O52: by induction on the number of cycles. -/
theorem oneInstructionPerCycle : Obligations.OneInstructionPerCycle := by
  intro n s t os h
  obtain ⟨hlen, hcycle, hresets⟩ := cyclesFrom_bookkeeping h
  exact ⟨hlen, hcycle, hresets, cyclesFrom_add h⟩

/-- A run with fuel that ends halted is at `haltPc`, or takes a step and halts on the fuel left. -/
theorem run_succ_halted {haltPc : Addr} {fuel : Nat} {s t : State} (h : run haltPc (fuel + 1) s = .halted t) :
    (s.regs.pc = haltPc ∧ s = t) ∨
      (s.regs.pc ≠ haltPc ∧ ∃ s', step s = .next s' ∧ run haltPc fuel s' = .halted t) := by
  rw [run] at h
  split at h
  next hp =>
    cases h
    exact .inl ⟨hp, rfl⟩
  next hp =>
    split at h
    next s' hs => exact .inr ⟨hp, s', hs, h⟩
    next => cases h
    next => cases h

/-- A run without fuel that ends halted is at `haltPc`. -/
theorem run_zero_halted {haltPc : Addr} {s t : State} (h : run haltPc 0 s = .halted t) :
    s.regs.pc = haltPc ∧ s = t := by
  rw [run] at h
  split at h
  next hp =>
    cases h
    exact ⟨hp, rfl⟩
  next => cases h

/-- Settles O51: by induction on the fuel; each step the run takes is a cycle from a PC that is not `haltPc`. -/
theorem runHaltsOnlyAtHaltPc : Obligations.RunHaltsOnlyAtHaltPc := by
  intro haltPc fuel s t h
  induction fuel generalizing s with
  | zero =>
    obtain ⟨hp, rfl⟩ := run_zero_halted h
    exact ⟨0, [], le_rfl, rfl, hp, by simp⟩
  | succ fuel ih =>
    rcases run_succ_halted h with ⟨hp, rfl⟩ | ⟨hp, s', hs, hrun⟩
    · exact ⟨0, [], Nat.zero_le _, rfl, hp, by simp⟩
    · obtain ⟨n, os, hn, hcycles, ht, hos⟩ := ih s' hrun
      obtain ⟨_, _, wr, _, -, ho⟩ := step_eq_commitCycle hs
      refine ⟨n + 1, outputsOf s wr :: os, Nat.succ_le_succ hn, ?_, ht, List.forall_mem_cons.mpr ⟨hp, hos⟩⟩
      rw [cyclesFrom_succ_of_next n hs ho, hcycles]
      rfl

/-- What plain storage holds after a step: the word its ports say was written, at its address if that is no device. -/
theorem step_ram_read {s t : State} {o : Outputs} (h : step s = .next t) (ho : t.outputs = some o) (p : Addr) :
    t.ram.read p = if s.isDevice p = false ∧ (o.writeM && o.addressM == p) = true then o.outM else s.ram.read p := by
  obtain ⟨la, ld, wr, take, hedge, hports⟩ := step_eq_commitCycle h
  obtain rfl : outputsOf s wr = o := Option.some.inj (hports.symm.trans ho)
  cases wr with
  | none =>
    rw [commitCycle_ram hedge, if_neg (by simp [outputsOf])]
    rfl
  | some v =>
    rw [commitCycle_ram_read hedge]
    by_cases hp : addressM s = p
    · subst hp
      simp [outputsOf]
    · simp [outputsOf, hp]

/-- A step keeps the parameter devices. -/
theorem step_isDevice {s t : State} (h : step s = .next t) (p : Addr) : t.isDevice p = s.isDevice p := by
  obtain ⟨_, _, _, _, hedge, -⟩ := step_eq_commitCycle h
  exact State.isDevice_congr (commitCycle_devices hedge) p

/-- An address outside the devices holds the latest word written to it, an address of the devices what it held (rule R49). -/
theorem cyclesFrom_ram_read {n : Nat} {s t : State} {os : List Outputs} (h : cyclesFrom n s = some (os, t)) (p : Addr) :
    t.isDevice p = s.isDevice p ∧
      t.ram.read p = if s.isDevice p then s.ram.read p else latestWrite p (s.ram.read p) os := by
  induction n generalizing s os with
  | zero =>
    cases h
    exact ⟨rfl, (ite_self _).symm⟩
  | succ n ih =>
    obtain ⟨s', o, os', hs, ho, hn, rfl⟩ := cyclesFrom_succ h
    obtain ⟨hdev, hread⟩ := ih hn
    have hdev' := step_isDevice hs p
    refine ⟨hdev.trans hdev', ?_⟩
    rw [hread, hdev', step_ram_read hs ho]
    cases s.isDevice p with
    | true => simp
    | false => simp [latestWrite]

theorem cyclesFrom_rom {n : Nat} {s t : State} {os : List Outputs} (h : cyclesFrom n s = some (os, t)) :
    t.rom = s.rom := by
  induction n generalizing s os with
  | zero => cases h; rfl
  | succ n ih =>
    obtain ⟨s', o, os', hs, -, hn, -⟩ := cyclesFrom_succ h
    exact (ih hn).trans (step_rom hs)

/-- Settles O43: by induction on the number of cycles, for plain storage, which is what is read outside the devices. -/
theorem memoryReadsTheLatestWrite : Obligations.MemoryReadsTheLatestWrite := by
  intro n s t os h p
  obtain ⟨hdev, hread⟩ := cyclesFrom_ram_read h p
  refine ⟨fun hp => ?_, fun hp => ?_, by rw [cyclesFrom_rom h]⟩
  · rw [State.dataWord_storage t p (hdev.trans hp), State.dataWord_storage s p hp, hread, hp]
    rfl
  · rw [hread, if_pos hp]

end Sys2Proof.Machine
end
